-- ==== Sys2Proof/Word.lean ====
section
/-! DEFINITION. The widths the operand and result ports of the block have (00_scope R5, 30_encoding R67). -/

namespace Sys2Proof

/-- One sensor register, one command field, one byte of an operand vector (`FLDW`, `REGW`, `ADDRW` = 8). -/
abbrev Byte := BitVec 8

/-- One calibration register or coefficient pair (`COEFW` = 16). -/
abbrev Coef := BitVec 16

/-- A raw sample (`RAWW` = 20). -/
abbrev Raw := BitVec 20

/-- A command word (`CWW` = 32), a direction value (`DIRW` = 32), the register `TF` and the result `T` (`TW` = 32). -/
abbrev Word := BitVec 32

/-- The result `p` (`PW` = 64). -/
abbrev DWord := BitVec 64

end Sys2Proof
end

