-- ==== Sys2Proof/Config.lean ====
section
/-! DEFINITION. The implementation parameters of 00_scope R5, the open host parameters, and the free values. -/

namespace Sys2Proof

/-- `TW`: width of the temperature datapath and of `TF` (R5, decision D9). -/
abbrev Config.tw : Nat := 32

/-- `PW`: width of the pressure datapath (R5). -/
abbrev Config.pw : Nat := 64

/-- `COEFW`: width of a calibration coefficient (R5). -/
abbrev Config.coefw : Nat := 16

/-- `NCAL`: number of calibration coefficients (R5). -/
abbrev Config.ncal : Nat := 12

/-- `CALBYTES`: size of the calibration block (R5). -/
abbrev Config.calbytes : Nat := 24

/-- `OPW`: width of the operation select (R5, decision D3). -/
abbrev Config.opw : Nat := 4

/-- The ways a sequential read can behave past 0xFF that 20_memory R56 names: wrap to 0x00, stop, or fail. -/
inductive SeqWrap where
  | wrap
  | stop
  | fail
  deriving DecidableEq, Repr, Inhabited

/-- Open host parameter `SEQ_WRAP` (R5, R56, decision D34). No rule of the block reads it. -/
opaque Config.seqWrap : SeqWrap

/-- Open host parameter `CAL_BASE` (R5, R49, decision D30). No rule of the block reads it. -/
opaque Config.calBase : Byte

/-- Open host parameter `TEMP_BASE` (R5, R49, decision D30). No rule of the block reads it. -/
opaque Config.tempBase : Byte

/-- Open host parameter `PRESS_BASE` (R5, R49, decision D30). No rule of the block reads it. -/
opaque Config.pressBase : Byte

/-- Open host parameter `ID_ADDR` (R5, R49, decision D30). No rule of the block reads it. -/
opaque Config.idAddr : Byte

/-- Open host parameter `STATUS_ADDR` (R5, R49, decision D30). No rule of the block reads it. -/
opaque Config.statusAddr : Byte

/-- Open host parameter `CTRL_ADDR` (R5, R49, decision D30). No rule of the block reads it. -/
opaque Config.ctrlAddr : Byte

/-- Open host parameter `CONFIG_ADDR` (R5, R49, decision D30). No rule of the block reads it. -/
opaque Config.configAddr : Byte

/-- Free value: what `CAL[i]` holds right after the reset that begins session number `session`. The spec gives no
value and forbids a model to give one (10_state R29, U10), so this has no body. DESIGN CHOICE, safe (log entry 1). -/
opaque Config.calAtReset (session : Nat) (i : Fin 12) : Coef

/-- Free value: what `TF` holds right after the reset that begins session number `session` (10_state R29, "in
particular not zero"). DESIGN CHOICE, safe (log entry 1). -/
opaque Config.tfAtReset (session : Nat) : Word

end Sys2Proof
end

