-- ==== Sys2Proof/Machine/Arith.lean ====
section
/-! DEFINITION. The arithmetic primitives of 00_scope R6, R7, R8 and R10, on mathematical integers. -/

namespace Sys2Proof.Machine

/-- `wrapS_N(z)`: the one integer in the signed N-bit range congruent to z modulo 2^N, by a two's-complement wrap to N
bits read as signed (R6). -/
def wrapS (N : Nat) (z : Int) : Int :=
  (BitVec.ofInt N z).toInt

/-- `wrapU_N(z)`: z modulo 2^N (R6). -/
def wrapU (N : Nat) (z : Int) : Int :=
  z % 2 ^ N

/-- `wT(z)`, wrap to the temperature datapath (R6, decision D9). -/
def wT (z : Int) : Int :=
  wrapS Config.tw z

/-- `wP(z)`, wrap to the pressure datapath (R6, decision D10). -/
def wP (z : Int) : Int :=
  wrapS Config.pw z

/-- `v[hi:lo]` (R7). -/
def slice (v : Int) (hi lo : Nat) : Int :=
  v / 2 ^ lo % 2 ^ (hi - lo + 1)

/-- `asr(a, n)`: floor of a / 2^n (R8). -/
def asr (a : Int) (n : Nat) : Int :=
  a / 2 ^ n

/-- `add_T` (R8). -/
def addT (a b : Int) : Int := wT (a + b)

/-- `sub_T` (R8). -/
def subT (a b : Int) : Int := wT (a - b)

/-- `mul_T` (R8). -/
def mulT (a b : Int) : Int := wT (a * b)

/-- `shl_T` (R8, decision D11). -/
def shlT (a : Int) (n : Nat) : Int := wT (a * 2 ^ n)

/-- `add_P` (R8). -/
def addP (a b : Int) : Int := wP (a + b)

/-- `sub_P` (R8). -/
def subP (a b : Int) : Int := wP (a - b)

/-- `mul_P` (R8). -/
def mulP (a b : Int) : Int := wP (a * b)

/-- `shl_P` (R8, decision D11). -/
def shlP (a : Int) (n : Nat) : Int := wP (a * 2 ^ n)

/-- `sdiv_P`, b not 0: the quotient rounded toward zero, wrapped (R8, decision D12). No meaning divides by 0. -/
def sdivP (a b : Int) : Int := wP (Int.tdiv a b)

/-- `s16(v)`: a 16-bit pattern read as two's complement (R10). PRESUMED by the spec (G6, log entry 10). -/
def s16 (v : Int) : Int := wrapS Config.coefw v

end Sys2Proof.Machine
end

