-- ==== Sys2Proof/Syntax.lean ====
section
/-! DEFINITION. The request record a host presents (30_encoding R66, R67) and the operations it can name, one
constructor per row of the opcode table. -/

namespace Sys2Proof

/-- Format CALBLK: the 24 bytes `B[0..23]` of the calibration block, lowest sensor address first (20_memory R43). -/
structure CalBlock where
  bytes : Vector Byte 24
  deriving DecidableEq, Repr

/-- Format MEAS: the three bytes of a measurement block, lowest sensor address first (20_memory R44). -/
structure MeasBlock where
  /-- `B[0]` -/
  msb : Byte
  /-- `B[1]` -/
  lsb : Byte
  /-- `B[2]` -/
  xlsb : Byte
  deriving DecidableEq, Repr

/-- Format REQ: a record of ports, not a packed word (R66). Every port has exactly the width of R67. A port of the
same name and width stands once. Ports the selected operation does not list are not looked at.
DESIGN CHOICE (log entry 11): one record with all ports. -/
structure Request where
  op : BitVec 4
  length : Byte
  register : Byte
  value : Byte
  dir : Word
  cw : Word
  b0 : Byte
  b1 : Byte
  calblk : CalBlock
  meas : MeasBlock
  raw : Raw
  deriving DecidableEq, Repr

/-- The request with the given select and zero in every operand port. -/
def Request.zeros (op : BitVec 4) : Request where
  op := op
  length := 0
  register := 0
  value := 0
  dir := 0
  cw := 0
  b0 := 0
  b1 := 0
  calblk := ⟨Vector.replicate 24 0⟩
  meas := ⟨0, 0, 0⟩
  raw := 0

/-- The operations, one constructor per row of the opcode table, with the operands of R67. The three rows of CMD are
told apart by `dir`. A reserved select ignores all operands and carries none. -/
inductive Instr where
  /-- op 0x0, 40_codec R81 -/
  | enc (length register value : Byte)
  /-- op 0x1, 40_codec R82 -/
  | dec (cw : Word)
  /-- op 0x2 with `dir` = 0, 40_codec R85 -/
  | cmdRd (cw : Word)
  /-- op 0x2 with `dir` = 1, 40_codec R86 -/
  | cmdWr (cw : Word)
  /-- op 0x2 with `dir` at least 2, 40_codec R87 -/
  | cmdUnsup (dir cw : Word)
  /-- op 0x3, 40_codec R88 -/
  | bsrd (b0 : Byte)
  /-- op 0x4, 40_codec R89 -/
  | bswr (b0 b1 : Byte)
  /-- op 0x5, 41_calibration_and_raw R101 -/
  | ldcal (B : CalBlock)
  /-- op 0x6, 41_calibration_and_raw R103 -/
  | mkraw (B : MeasBlock)
  /-- op 0x7, 42_compensation R111 to R113 -/
  | compt (raw : Raw)
  /-- op 0x8, 42_compensation R117 to R120 -/
  | compp (raw : Raw)
  /-- op 0x9, 30_encoding R70 -/
  | reserved9
  /-- op 0xA, 30_encoding R70 -/
  | reservedA
  /-- op 0xB, 30_encoding R70 -/
  | reservedB
  /-- op 0xC, 30_encoding R70 -/
  | reservedC
  /-- op 0xD, 30_encoding R70 -/
  | reservedD
  /-- op 0xE, 30_encoding R70 -/
  | reservedE
  /-- op 0xF, 30_encoding R70 -/
  | reservedF
  deriving DecidableEq, Repr

end Sys2Proof
end

