-- ==== Sys2Proof/WellFormed.lean ====
section
/-! DEFINITION. Which instructions stand for a request a host can present. Port widths are in the types, so the one
check left is the direction of an unsupported command (40_codec R87). -/

namespace Sys2Proof

/-- `cmdUnsup` is the CMD row of `dir` at least 2. With `dir` 0 or 1 the request is one of the other two rows. -/
def Instr.wf : Instr → Bool
  | .cmdUnsup dir _ => decide (2 ≤ dir.toNat)
  | .enc _ _ _ => true
  | .dec _ => true
  | .cmdRd _ => true
  | .cmdWr _ => true
  | .bsrd _ => true
  | .bswr _ _ => true
  | .ldcal _ => true
  | .mkraw _ => true
  | .compt _ => true
  | .compp _ => true
  | .reserved9 => true
  | .reservedA => true
  | .reservedB => true
  | .reservedC => true
  | .reservedD => true
  | .reservedE => true
  | .reservedF => true

end Sys2Proof
end

