-- ==== Sys2Proof/Decode.lean ====
section
/-! DEFINITION. The operation map of 30_encoding R66 and R70, both ways. Decoding is total: every request a host can
present names an operation or a reserved select, and none is refused (R70). -/

namespace Sys2Proof

/-- The three rows of select 0x2, told apart by the direction compared as an unsigned number (R62, R69, R84). -/
def decodeCmd (dir cw : Word) : Instr :=
  if dir.toNat = 0 then .cmdRd cw
  else if dir.toNat = 1 then .cmdWr cw
  else .cmdUnsup dir cw

/-- The operation a request selects, with the operand ports R67 lists for it. The last arm is select 0xF. -/
def decode (p : Request) : Instr :=
  match p.op with
  | 0x0#4 => .enc p.length p.register p.value
  | 0x1#4 => .dec p.cw
  | 0x2#4 => decodeCmd p.dir p.cw
  | 0x3#4 => .bsrd p.b0
  | 0x4#4 => .bswr p.b0 p.b1
  | 0x5#4 => .ldcal p.calblk
  | 0x6#4 => .mkraw p.meas
  | 0x7#4 => .compt p.raw
  | 0x8#4 => .compp p.raw
  | 0x9#4 => .reserved9
  | 0xA#4 => .reservedA
  | 0xB#4 => .reservedB
  | 0xC#4 => .reservedC
  | 0xD#4 => .reservedD
  | 0xE#4 => .reservedE
  | _ => .reservedF

/-- The select code of an instruction, the table of R66. -/
def Instr.select : Instr → BitVec 4
  | .enc _ _ _ => 0x0
  | .dec _ => 0x1
  | .cmdRd _ => 0x2
  | .cmdWr _ => 0x2
  | .cmdUnsup _ _ => 0x2
  | .bsrd _ => 0x3
  | .bswr _ _ => 0x4
  | .ldcal _ => 0x5
  | .mkraw _ => 0x6
  | .compt _ => 0x7
  | .compp _ => 0x8
  | .reserved9 => 0x9
  | .reservedA => 0xA
  | .reservedB => 0xB
  | .reservedC => 0xC
  | .reservedD => 0xD
  | .reservedE => 0xE
  | .reservedF => 0xF

/-- The request that presents an instruction: its select, its operand ports, zero in every other port. -/
def encode (i : Instr) : Request :=
  match i with
  | .enc l r v => { Request.zeros i.select with length := l, register := r, value := v }
  | .dec cw => { Request.zeros i.select with cw := cw }
  | .cmdRd cw => { Request.zeros i.select with dir := 0, cw := cw }
  | .cmdWr cw => { Request.zeros i.select with dir := 1, cw := cw }
  | .cmdUnsup dir cw => { Request.zeros i.select with dir := dir, cw := cw }
  | .bsrd b0 => { Request.zeros i.select with b0 := b0 }
  | .bswr b0 b1 => { Request.zeros i.select with b0 := b0, b1 := b1 }
  | .ldcal B => { Request.zeros i.select with calblk := B }
  | .mkraw B => { Request.zeros i.select with meas := B }
  | .compt raw => { Request.zeros i.select with raw := raw }
  | .compp raw => { Request.zeros i.select with raw := raw }
  | .reserved9 => Request.zeros i.select
  | .reservedA => Request.zeros i.select
  | .reservedB => Request.zeros i.select
  | .reservedC => Request.zeros i.select
  | .reservedD => Request.zeros i.select
  | .reservedE => Request.zeros i.select
  | .reservedF => Request.zeros i.select

/-- The request with every port zeroed that its operation does not list in 30_encoding R67. For CMD with an
unsupported direction the command word is kept. -/
def Request.onlyUsed (p : Request) : Request :=
  match p.op with
  | 0x0#4 => { Request.zeros p.op with length := p.length, register := p.register, value := p.value }
  | 0x1#4 => { Request.zeros p.op with cw := p.cw }
  | 0x2#4 => { Request.zeros p.op with dir := p.dir, cw := p.cw }
  | 0x3#4 => { Request.zeros p.op with b0 := p.b0 }
  | 0x4#4 => { Request.zeros p.op with b0 := p.b0, b1 := p.b1 }
  | 0x5#4 => { Request.zeros p.op with calblk := p.calblk }
  | 0x6#4 => { Request.zeros p.op with meas := p.meas }
  | 0x7#4 => { Request.zeros p.op with raw := p.raw }
  | 0x8#4 => { Request.zeros p.op with raw := p.raw }
  | _ => Request.zeros p.op

/-- The request a word of the opcode table stands for: the table numbers the four bits of the `op` port alone, so a
wider number is truncated to the port (R69) and every operand port is zero. DEDUCED (log entry 6). -/
def requestOfTableWord (nbits w : Nat) : Request :=
  Request.zeros (BitVec.ofNat 4 (w % 2 ^ nbits))

/-- What the decoder reads from a word of the opcode table. -/
def decodeTableWord (nbits w : Nat) : Option Instr :=
  some (decode (requestOfTableWord nbits w))

end Sys2Proof
end

