-- ==== Sys2Proof/Machine/State.lean ====
section
/-! DEFINITION. The state of one block instance (10_state R20), the responses it gives (30_encoding R68), the host's
side of the interface as plain data, and the state after reset (10_state R29). -/

namespace Sys2Proof.Machine

/-- A request value: the one register access the host is to carry out next (40_codec R80). -/
inductive RequestValue where
  | none
  | read (addr n : Byte)
  | write (addr v : Byte)
  deriving DecidableEq, Repr

/-- The result an operation returns with status `Ok` (30_encoding R67). -/
inductive Result where
  /-- ENC: the command word -/
  | word (cw : Word)
  /-- DEC: the three fields -/
  | fields (length register value : Byte)
  /-- CMD, BSRD, BSWR: a request value -/
  | request (q : RequestValue)
  /-- LDCAL: no result -/
  | loaded
  /-- MKRAW: the raw sample -/
  | raw (raw : Raw)
  /-- COMPT: `T`, hundredths of a degree Celsius, signed -/
  | temperature (t : Word)
  /-- COMPP: `p`, 1/256 pascal, signed -/
  | pressure (p : DWord)
  deriving DecidableEq, Repr

/-- The causes of `DomainError` (60_exceptions R131). -/
inductive DomainCause where
  | calNotLoaded
  | tFineUnset
  | zeroDivisor
  | calAlreadyLoaded
  deriving DecidableEq, Repr

/-- The causes of `UnsupportedCommand` (60_exceptions R132). -/
inductive UnsupportedCause where
  | badDirection
  | reservedOp
  deriving DecidableEq, Repr

/-- The four error kinds (60_exceptions R130). The last two are the host's: the block never raises them (R133, R134). -/
inductive ErrorKind where
  | domainError (c : DomainCause)
  | unsupportedCommand (c : UnsupportedCause)
  | transportError
  | bufferFault
  deriving DecidableEq, Repr

/-- A response: `Ok` with a result, or an error with no data (00_scope R12, 30_encoding R68). A sum type, as decision
D7 asks, so that no data is read under an error; the ports of R68 are `Response.ports`. -/
inductive Response where
  | ok (v : Result)
  | error (e : ErrorKind)
  deriving DecidableEq, Repr

/-- What the host does next: present a request, or apply reset (00_scope R3, 70_reset R160). -/
inductive HostEvent where
  | request (p : Request)
  | reset
  deriving DecidableEq, Repr

/-- The state. The last four fields are the whole state of the block (R20). The first three are the model's own: they
stand first so that a comparison of two states meets the responses, which every operation changes, before the
registers. -/
structure State where
  /-- the responses given so far, oldest first (log entry 4) -/
  responses : List Response
  /-- the host's events still to come, oldest first (log entry 3) -/
  inputs : List HostEvent
  /-- number of the session, to which the free values at reset are applied (log entry 2) -/
  session : Nat
  /-- `cal_valid` (R25) -/
  calValid : Bool
  /-- `tf_valid` (R26) -/
  tfValid : Bool
  /-- `CAL[0..11]`, the bit patterns (R20, R22) -/
  cal : Vector Coef 12
  /-- `TF`, the bit pattern (R20, R24) -/
  tf : Word
  deriving DecidableEq, Repr

/-- Why the machine stops with a fault. Nothing raises one: every request has a defined outcome (30_encoding R70) and
every error is a status in a response (60_exceptions R138). So the type is empty. -/
inductive Fault where
  deriving DecidableEq, Repr

/-- Why an instruction has no meaning. -/
inductive Refusal where
  /-- Raised by an arm of `exec` for an instruction without a meaning yet. Safe: nothing is claimed of it. No arm
  raises it now. -/
  | notModelled (mnemonic : String)
  deriving DecidableEq, Repr

/-- The calibration registers right after the reset that begins a session: no value is known of them (R29). -/
def calAtReset (session : Nat) : Vector Coef 12 :=
  Vector.ofFn (Config.calAtReset session)

/-- The machine right after reset (10_state R29, 70_reset R161): both flags 0, `CAL` and `TF` free values, no request
presented yet and no response given yet. -/
def State.reset : State where
  responses := []
  inputs := []
  session := 0
  calValid := false
  tfValid := false
  cal := calAtReset 0
  tf := Config.tfAtReset 0

end Sys2Proof.Machine
end

