-- ==== Sys2Proof/Machine/Operands.lean ====
section
/-! DEFINITION. How operands are assembled and read: command fields, coefficient pairs, raw samples, coefficient
values (30_encoding R69). -/

namespace Sys2Proof.Machine

/-- `cw[7:0]` (R61). -/
def cwLength (cw : Word) : Byte := cw.extractLsb' 0 8

/-- `cw[15:8]` (R61). -/
def cwRegister (cw : Word) : Byte := cw.extractLsb' 8 8

/-- `cw[23:16]` (R61). -/
def cwValue (cw : Word) : Byte := cw.extractLsb' 16 8

/-- `length | register<<8 | value<<16`, bits [31:24] zero (R61, R69). -/
def packCommand (length register value : Byte) : Word :=
  length.setWidth 32 ||| (register.setWidth 32 <<< 8) ||| (value.setWidth 32 <<< 16)

/-- `pair16(lo, hi)` (41_calibration_and_raw R100). -/
def pair16 (lo hi : Byte) : Coef :=
  (hi.setWidth 16 <<< 8) ||| lo.setWidth 16

/-- `raw20(b0, b1, b2)` (41_calibration_and_raw R102). -/
def raw20 (B : MeasBlock) : Raw :=
  (B.msb.setWidth 20 <<< 12) ||| (B.lsb.setWidth 20 <<< 4) ||| (B.xlsb >>> 4).setWidth 20

/-- The twelve patterns LDCAL writes, coefficient i from `B[2i]` and `B[2i+1]` (20_memory R43, R101). -/
def calOfBlock (B : CalBlock) : Vector Coef 12 :=
  Vector.ofFn fun i : Fin 12 => pair16 B.bytes[2 * i.val] B.bytes[2 * i.val + 1]

/-- The integer a calibration register stands for: T1 and P1 unsigned, the rest signed (10_state R22, R10, R15). -/
def coefValue (i : Fin 12) (u : Coef) : Int :=
  if i = 0 ∨ i = 3 then u.toNat else s16 u.toNat

/-- A raw sample as the datapaths read it: zero-extended (R69). -/
def rawValue (raw : Raw) : Int := raw.toNat

/-- The bit pattern of a signed 32-bit result. -/
def patternT (z : Int) : Word := BitVec.ofInt 32 z

/-- The bit pattern of a signed 64-bit result. -/
def patternP (z : Int) : DWord := BitVec.ofInt 64 z

end Sys2Proof.Machine
end

