-- ==== Sys2Proof/Machine/Ops.lean ====
section
/-! DEFINITION. The named operations over the state: answering, raising an error, reading and writing the
calibration registers and `TF`, reset, and taking the host's next event. -/

namespace Sys2Proof.Machine

/-- What a meaning answers. -/
abbrev Answer := Host.Outcome State Fault Refusal

/-- Give the host one response (00_scope R12, 70_reset R167). -/
def State.answer (s : State) (r : Response) : State :=
  { s with responses := s.responses ++ [r] }

/-- `respond Ok(v)`: status `Ok` with result v, the state writes made before it committed (00_scope R12). -/
def respond (s : State) (v : Result) : Answer :=
  .next (s.answer (.ok v))

/-- `raise K(info)`: an error status, no data, no state write (00_scope R12, 60_exceptions R138). The one shared
operation for every error. Nothing is saved, so there is nothing to return from (R139). -/
def raise (s : State) (e : ErrorKind) : Answer :=
  .next (s.answer (.error e))

/-- `CAL[i]` as the integer the rules use (00_scope R11, 10_state R22). -/
def State.coef (s : State) (i : Fin 12) : Int :=
  coefValue i s.cal[i]

/-- `CAL[0..11] <- v`, all twelve in one step (10_state R23, 41_calibration_and_raw R101). -/
def State.writeCal (s : State) (v : Vector Coef 12) : State :=
  { s with cal := v }

/-- `TF` as a signed integer (10_state R24). -/
def State.tfValue (s : State) : Int :=
  s.tf.toInt

/-- `TF <- v` (42_compensation R113). -/
def State.writeTF (s : State) (v : Int) : State :=
  { s with tf := patternT v }

/-- The reset event: both flags 0, `CAL` and `TF` hold no known value, a new session begins (10_state R29,
70_reset R160). The host's list of events and the responses already given are the host's and stay. -/
def applyReset (s : State) : State :=
  { s with
    cal := calAtReset (s.session + 1)
    tf := Config.tfAtReset (s.session + 1)
    calValid := false
    tfValid := false
    session := s.session + 1 }

/-- Take the host's oldest event. With none presented the block waits (70_reset R161). -/
def fetch (s : State) : Option (HostEvent × State) :=
  match s.inputs with
  | [] => none
  | e :: rest => some (e, { s with inputs := rest })

/-- Let the host present one event before those already listed. -/
def State.present (s : State) (e : HostEvent) : State :=
  { s with inputs := e :: s.inputs }

/-- The result ports of R67, with the status and detail of R68, in one record (log entry 14). The widths of `status`, `detail` and `kind` are not
given: they are numbers here (log entry 4). -/
structure ResponsePorts where
  status : Nat
  detail : Nat
  cw : Word
  length : Byte
  register : Byte
  value : Byte
  kind : Nat
  addr : Byte
  n : Byte
  v : Byte
  raw : Raw
  t : Word
  p : DWord
  deriving DecidableEq, Repr

/-- Every result port zero, with a status and a detail. -/
def portsZero (status detail : Nat) : ResponsePorts where
  status := status
  detail := detail
  cw := 0
  length := 0
  register := 0
  value := 0
  kind := 0
  addr := 0
  n := 0
  v := 0
  raw := 0
  t := 0
  p := 0

/-- `status` codes (R68). -/
def Response.status : Response → Nat
  | .ok _ => 0
  | .error (.domainError _) => 1
  | .error (.unsupportedCommand _) => 2
  | .error .transportError => 3
  | .error .bufferFault => 4

/-- `detail` codes (R68). -/
def Response.detail : Response → Nat
  | .ok _ => 0
  | .error (.domainError .calNotLoaded) => 1
  | .error (.domainError .tFineUnset) => 2
  | .error (.domainError .zeroDivisor) => 3
  | .error (.domainError .calAlreadyLoaded) => 4
  | .error (.unsupportedCommand .badDirection) => 1
  | .error (.unsupportedCommand .reservedOp) => 2
  | .error .transportError => 0
  | .error .bufferFault => 0

/-- The port layout of a request value (R68): `None` all zero, `Read(a, k)` kind 1, `Write(a, x)` kind 2 with n 1.
The ports outside the four are zero, DESIGN CHOICE (log entry 14). -/
def RequestValue.ports (q : RequestValue) : ResponsePorts :=
  match q with
  | .none => portsZero 0 0
  | .read a k => { portsZero 0 0 with kind := 1, addr := a, n := k }
  | .write a x => { portsZero 0 0 with kind := 2, addr := a, n := 1, v := x }

/-- The ports of a response (R67, R68): a result drives the ports its operation lists, and under an error every result
port is zero. What a port of another operation holds under `Ok` no rule says: zero here, DESIGN CHOICE (log entry 14). -/
def Response.ports (r : Response) : ResponsePorts :=
  match r with
  | .ok (.word cw) => { portsZero 0 0 with cw := cw }
  | .ok (.fields l a v) => { portsZero 0 0 with length := l, register := a, value := v }
  | .ok (.request q) => q.ports
  | .ok .loaded => portsZero 0 0
  | .ok (.raw x) => { portsZero 0 0 with raw := x }
  | .ok (.temperature t) => { portsZero 0 0 with t := t }
  | .ok (.pressure p) => { portsZero 0 0 with p := p }
  | .error e => portsZero (Response.status (.error e)) (Response.detail (.error e))

end Sys2Proof.Machine
end

