-- ==== Sys2Proof/Machine/Flags.lean ====
section
/-! DEFINITION. The two valid flags: who sets them and the guards that test them (10_state R25, R26). There are no
arithmetic flags and no sticky error flag (R28). -/

namespace Sys2Proof.Machine

/-- `cal_valid <- 1` (41_calibration_and_raw R101). -/
def State.setCalValid (s : State) : State :=
  { s with calValid := true }

/-- `tf_valid <- 1` (42_compensation R113). -/
def State.setTfValid (s : State) : State :=
  { s with tfValid := true }

/-- The guard of LDCAL: `cal_valid` = 1 raises `DomainError(CalAlreadyLoaded)` (41_calibration_and_raw R101). -/
def requireUnloaded (s : State) (k : Answer) : Answer :=
  if s.calValid then raise s (.domainError .calAlreadyLoaded) else k

/-- The guard of COMPT and the first of COMPP: `cal_valid` = 0 raises `DomainError(CalNotLoaded)` (42_compensation
R111, R117). -/
def requireCal (s : State) (k : Answer) : Answer :=
  if s.calValid then k else raise s (.domainError .calNotLoaded)

/-- The second guard of COMPP: `tf_valid` = 0 raises `DomainError(TFineUnset)` (42_compensation R117). -/
def requireTF (s : State) (k : Answer) : Answer :=
  if s.tfValid then k else raise s (.domainError .tFineUnset)

end Sys2Proof.Machine
end

