-- ==== Sys2Proof/Machine/Calibration.lean ====
section
/-! DEFINITION. The input stage: LDCAL and MKRAW (41_calibration_and_raw R101, R103). -/

namespace Sys2Proof.Machine

/-- LDCAL (R101): refused when already loaded, else all twelve registers and `cal_valid` in one step. -/
def execLdcal (B : CalBlock) (s : State) : Answer :=
  requireUnloaded s (respond (s.writeCal (calOfBlock B)).setCalValid .loaded)

/-- MKRAW (R103). Reads and writes no state. -/
def execMkraw (B : MeasBlock) (s : State) : Answer :=
  respond s (.raw (raw20 B))

end Sys2Proof.Machine
end

