-- ==== Sys2Proof/Machine/Codec.lean ====
section
/-! DEFINITION. The register codec: ENC, DEC, the three rows of CMD, BSRD, BSWR (40_codec R81 to R89). None reads or
writes state. -/

namespace Sys2Proof.Machine

/-- ENC (R81). -/
def execEnc (length register value : Byte) (s : State) : Answer :=
  respond s (.word (packCommand length register value))

/-- DEC (R82). -/
def execDec (cw : Word) (s : State) : Answer :=
  respond s (.fields (cwLength cw) (cwRegister cw) (cwValue cw))

/-- CMD, the pseudocode of R84: 0 is a read, 1 is a write, anything else is unsupported. -/
def classify (dir cw : Word) (s : State) : Answer :=
  if dir.toNat = 0 then respond s (.request (.read (cwRegister cw) (cwLength cw)))
  else if dir.toNat = 1 then respond s (.request (.write (cwRegister cw) (cwValue cw)))
  else raise s (.unsupportedCommand .badDirection)

/-- CMD with `dir` = 0 (R85). -/
def execCmdRd (cw : Word) (s : State) : Answer :=
  classify 0 cw s

/-- CMD with `dir` = 1 (R86). -/
def execCmdWr (cw : Word) (s : State) : Answer :=
  classify 1 cw s

/-- CMD with `dir` at least 2 (R87). On a term that is not well formed it is CMD of that direction (log entry 7). -/
def execCmdUnsup (dir cw : Word) (s : State) : Answer :=
  classify dir cw s

/-- BSRD (R88). -/
def execBsrd (b0 : Byte) (s : State) : Answer :=
  respond s (.request (.read b0 1))

/-- BSWR (R89): byte 0 is the register, byte 1 the value. -/
def execBswr (b0 b1 : Byte) (s : State) : Answer :=
  respond s (.request (.write b0 b1))

end Sys2Proof.Machine
end

