-- ==== Sys2Proof/Machine/Compensation.lean ====
section
/-! DEFINITION. The compensation engine: COMPT at 32 bits (42_compensation R111 to R113) and COMPP at 64 bits (R117
to R120). Each named intermediate of R112 and R118 is a definition; arguments are integer values. -/

namespace Sys2Proof.Machine

/-- `x3` (R112): `(raw>>3) - (T1<<1)`. -/
def tempX3 (raw t1 : Int) : Int :=
  subT (asr raw 3) (shlT t1 1)

/-- `var1` (R112): `x3 * T2 >> 11`. -/
def tempVar1 (raw t1 t2 : Int) : Int :=
  asr (mulT (tempX3 raw t1) t2) 11

/-- `y1` (R112): `(raw>>4) - T1`. -/
def tempY1 (raw t1 : Int) : Int :=
  subT (asr raw 4) t1

/-- `y3` (R112): `y1 * y1 >> 12`. -/
def tempY3 (raw t1 : Int) : Int :=
  asr (mulT (tempY1 raw t1) (tempY1 raw t1)) 12

/-- `var2` (R112): `y3 * T3 >> 14`. -/
def tempVar2 (raw t1 t3 : Int) : Int :=
  asr (mulT (tempY3 raw t1) t3) 14

/-- `tf` (R112): `var1 + var2`. -/
def tempFine (raw t1 t2 t3 : Int) : Int :=
  addT (tempVar1 raw t1 t2) (tempVar2 raw t1 t3)

/-- `T` (R112): `(tf*5 + 128) >> 8`. -/
def tempResult (tf : Int) : Int :=
  asr (addT (mulT tf 5) 128) 8

/-- What COMPT writes to `TF` for a raw sample, from `T1`, `T2`, `T3` = `CAL[0..2]` (R111). -/
def State.fineOf (s : State) (raw : Raw) : Int :=
  tempFine (rawValue raw) (s.coef 0) (s.coef 1) (s.coef 2)

/-- COMPT (R111, R113). -/
def execCompt (raw : Raw) (s : State) : Answer :=
  requireCal s
    (respond (s.writeTF (s.fineOf raw)).setTfValid
      (.temperature (patternT (tempResult (s.fineOf raw)))))

/-- `a` (R118): `TF - 128000`. -/
def presA (tf : Int) : Int :=
  subP tf 128000

/-- `sq` (R118): `a*a`. -/
def presSq (tf : Int) : Int :=
  mulP (presA tf) (presA tf)

/-- `b3` (R118): `a*a*P6 + ((a*P5) << 17) + (P4 << 35)`. -/
def presB (tf p4 p5 p6 : Int) : Int :=
  addP (addP (mulP (presSq tf) p6) (shlP (mulP (presA tf) p5) 17)) (shlP p4 35)

/-- `c` (R118): `((a*a*P3) >> 8) + ((a*P2) << 12)`. -/
def presC (tf p2 p3 : Int) : Int :=
  addP (asr (mulP (presSq tf) p3) 8) (shlP (mulP (presA tf) p2) 12)

/-- `e` (R118): `(2^47 + c) * P1`. -/
def presE (tf p1 p2 p3 : Int) : Int :=
  mulP (addP (2 ^ 47) (presC tf p2 p3)) p1

/-- `d` (R118): the divisor, `e >> 33`. -/
def presD (tf p1 p2 p3 : Int) : Int :=
  asr (presE tf p1 p2 p3) 33

/-- `p0` (R118): `1048576 - raw`. -/
def presP0 (raw : Int) : Int :=
  1048576 - raw

/-- `n` (R118): `((p0<<31) - b3) * 3125`. -/
def presN (raw tf p4 p5 p6 : Int) : Int :=
  mulP (subP (shlP (presP0 raw) 31) (presB tf p4 p5 p6)) 3125

/-- `e1` (R118): `(P9 * s * s) >> 25` with `s = p1 >> 13`. -/
def presE1 (p1 p9 : Int) : Int :=
  asr (mulP (mulP p9 (asr p1 13)) (asr p1 13)) 25

/-- `e2` (R118): `(P8 * p1) >> 19`. -/
def presE2 (p1 p8 : Int) : Int :=
  asr (mulP p8 p1) 19

/-- `p` (R118) from the quotient `p1`: `((p1 + e1 + e2) >> 8) + (P7 << 4)`. -/
def presResult (p1 p7 p8 p9 : Int) : Int :=
  addP (asr (addP (addP p1 (presE1 p1 p9)) (presE2 p1 p8)) 8) (shlP p7 4)

/-- The divisor `d` of COMPP, from `TF`, P1, P2, P3 only (R119). -/
def State.divisor (s : State) : Int :=
  presD s.tfValue (s.coef 3) (s.coef 4) (s.coef 5)

/-- `p1` (R118): the quotient of `n` by `d`, truncated toward zero. -/
def State.quotient (s : State) (raw : Raw) : Int :=
  sdivP (presN (rawValue raw) s.tfValue (s.coef 6) (s.coef 7) (s.coef 8)) s.divisor

/-- `p` of COMPP (R118). -/
def State.pressureOf (s : State) (raw : Raw) : Int :=
  presResult (s.quotient raw) (s.coef 9) (s.coef 10) (s.coef 11)

/-- COMPP (R117, R119, R120): the two guards, the zero divisor, the result. Writes nothing but its response. -/
def execCompp (raw : Raw) (s : State) : Answer :=
  requireCal s <| requireTF s <|
    if s.divisor = 0 then raise s (.domainError .zeroDivisor)
    else respond s (.pressure (patternP (s.pressureOf raw)))

end Sys2Proof.Machine
end

