-- ==== Sys2Proof/Machine/Reserved.lean ====
section
/-! DEFINITION. The reserved selects 0x9 to 0xF: `UnsupportedCommand(ReservedOp)`, decided on `op` alone, no effect
(30_encoding R70, 60_exceptions R132, R137). -/

namespace Sys2Proof.Machine

/-- The outcome of every reserved select (R70). -/
def reservedSelect (s : State) : Answer :=
  raise s (.unsupportedCommand .reservedOp)

/-- RESERVED_9 (R70). -/
def execReserved9 (s : State) : Answer := reservedSelect s

/-- RESERVED_A (R70). -/
def execReservedA (s : State) : Answer := reservedSelect s

/-- RESERVED_B (R70). -/
def execReservedB (s : State) : Answer := reservedSelect s

/-- RESERVED_C (R70). -/
def execReservedC (s : State) : Answer := reservedSelect s

/-- RESERVED_D (R70). -/
def execReservedD (s : State) : Answer := reservedSelect s

/-- RESERVED_E (R70). -/
def execReservedE (s : State) : Answer := reservedSelect s

/-- RESERVED_F (R70). -/
def execReservedF (s : State) : Answer := reservedSelect s

end Sys2Proof.Machine
end

