-- ==== Sys2Proof/Machine/Dispatch.lean ====
section
/-! DEFINITION. One arm per instruction. -/

namespace Sys2Proof.Machine

def exec (i : Instr) (s : State) : Host.Outcome State Fault Refusal :=
  match i with
  | .enc length register value => Sys2Proof.Machine.execEnc length register value s
  | .dec cw => Sys2Proof.Machine.execDec cw s
  | .cmdRd cw => Sys2Proof.Machine.execCmdRd cw s
  | .cmdWr cw => Sys2Proof.Machine.execCmdWr cw s
  | .cmdUnsup dir cw => Sys2Proof.Machine.execCmdUnsup dir cw s
  | .bsrd b0 => Sys2Proof.Machine.execBsrd b0 s
  | .bswr b0 b1 => Sys2Proof.Machine.execBswr b0 b1 s
  | .ldcal B => Sys2Proof.Machine.execLdcal B s
  | .mkraw B => Sys2Proof.Machine.execMkraw B s
  | .compt raw => Sys2Proof.Machine.execCompt raw s
  | .compp raw => Sys2Proof.Machine.execCompp raw s
  | .reserved9 => Sys2Proof.Machine.execReserved9 s
  | .reservedA => Sys2Proof.Machine.execReservedA s
  | .reservedB => Sys2Proof.Machine.execReservedB s
  | .reservedC => Sys2Proof.Machine.execReservedC s
  | .reservedD => Sys2Proof.Machine.execReservedD s
  | .reservedE => Sys2Proof.Machine.execReservedE s
  | .reservedF => Sys2Proof.Machine.execReservedF s

end Sys2Proof.Machine
end

