-- ==== Sys2Proof/Machine/Step.lean ====
section
/-! DEFINITION. One step: the host's oldest event takes effect (20_memory R51). -/

namespace Sys2Proof.Machine

/-- With no event presented the block waits and nothing changes (70_reset R161, R168); a reset event begins a new
session (R160); a request is decoded and executed (00_scope R12). -/
def step (s : State) : Host.Outcome State Fault Refusal :=
  match fetch s with
  | none => .next s
  | some (.reset, s') => .next (applyReset s')
  | some (.request p, s') => exec (decode p) s'

/-- The state with a word of the opcode table presented as the next request (log entry 3). -/
def State.withFetchWord (s : State) (nbits w : Nat) : State :=
  s.present (.request (requestOfTableWord nbits w))

end Sys2Proof.Machine
end

