-- ==== Sys2Proof/Machine/Datapath.lean ====
section
/-! DEFINITION. The two datapaths once more, as fixed-width two's-complement circuits on bit patterns: what a 32-bit
and a 64-bit signed unit would compute for 42_compensation R112 and R118. The meanings do not use them; they are the
other side of the equivalence statements. -/

namespace Sys2Proof.Machine

/-- `tf` (R112) on 32-bit registers: T1 zero-extended, T2 and T3 sign-extended (R10). -/
def tempFineCircuit (raw : Raw) (t1 t2 t3 : Coef) : Word :=
  let r : Word := raw.setWidth 32
  let u1 : Word := t1.setWidth 32
  let x : Word := (r >>> 3) - (u1 <<< 1)
  let y : Word := (r >>> 4) - u1
  (x * t2.signExtend 32).sshiftRight 11
    + ((y * y).sshiftRight 12 * t3.signExtend 32).sshiftRight 14

/-- `T` (R112) on 32-bit registers. -/
def tempResultCircuit (tf : Word) : Word :=
  (tf * 5 + 128).sshiftRight 8

/-- `d` (R118) on 64-bit registers. -/
def divisorCircuit (tf : Word) (p1 p2 p3 : Coef) : DWord :=
  let a : DWord := tf.signExtend 64 - 128000
  let c : DWord := (a * a * p3.signExtend 64).sshiftRight 8 + ((a * p2.signExtend 64) <<< 12)
  ((c + (1 <<< 47)) * p1.setWidth 64).sshiftRight 33

/-- `n` (R118) on 64-bit registers. -/
def numeratorCircuit (raw : Raw) (tf : Word) (p4 p5 p6 : Coef) : DWord :=
  let a : DWord := tf.signExtend 64 - 128000
  let b : DWord :=
    a * a * p6.signExtend 64 + ((a * p5.signExtend 64) <<< 17) + (p4.signExtend 64 <<< 35)
  (((1048576 - raw.setWidth 64) <<< 31) - b) * 3125

/-- `p` (R118) on 64-bit registers, from the quotient. -/
def pressureCircuit (q : DWord) (p7 p8 p9 : Coef) : DWord :=
  let s : DWord := q.sshiftRight 13
  (q + (p9.signExtend 64 * s * s).sshiftRight 25 + (p8.signExtend 64 * q).sshiftRight 19).sshiftRight 8
    + (p7.signExtend 64 <<< 4)

end Sys2Proof.Machine
end

