-- ==== Sys2Proof/Machine/Report.lean ====
section
/-! DEFINITION. The physical quantities the two results report, as exact rationals (42_compensation R113, R120). The
conversion to a floating-point number is the host's and out of scope (00_scope R4). -/

namespace Sys2Proof.Machine

/-- Degrees Celsius reported by a COMPT result: exactly T / 100 (R113). -/
def celsius (t : Word) : Rat := t.toInt / 100

/-- Pascals reported by a COMPP result: exactly p / 256 (R120). -/
def pascals (p : DWord) : Rat := p.toInt / 256

end Sys2Proof.Machine
end

