-- ==== Sys2Proof/Machine/Sequence.lean ====
section
/-! DEFINITION. The notation for operation sequences of 30_encoding R72 and the pseudo-operations of R73: notation
for what a host presents, not operations of the block. -/

namespace Sys2Proof.Machine

/-- An operand written as a number, or as `$k`, the result of the k-th request line (R72). -/
inductive Source (w : Nat) where
  | lit (v : BitVec w)
  | line (k : Nat)
  deriving DecidableEq, Repr

/-- One line of a sequence (R72, R73). `$k` can stand for a command word (ENC returns one) or a raw sample (MKRAW
returns one), the two results that some operation takes as an operand. -/
inductive Line where
  | request (i : Instr)
  | dec (cw : Source 32)
  | cmd (dir : Word) (cw : Source 32)
  | compt (raw : Source 20)
  | compp (raw : Source 20)
  | sampt (B : MeasBlock)
  | sampp (B : MeasBlock)
  | reset
  deriving DecidableEq, Repr

/-- The k-th response of the sequence, counting requests from 1; `base` responses were given before it began. -/
def lineResponse (s : State) (base k : Nat) : Option Response :=
  if k = 0 then none else s.responses[base + (k - 1)]?

/-- A command word operand. `$k` has a meaning where line k returned a command word (log entry 9). -/
def resolveWord (s : State) (base : Nat) : Source 32 → Option Word
  | .lit v => some v
  | .line k =>
    match lineResponse s base k with
    | some (.ok (.word cw)) => some cw
    | _ => none

/-- A raw sample operand. `$k` has a meaning where line k returned a raw sample (log entry 9). -/
def resolveRaw (s : State) (base : Nat) : Source 20 → Option Raw
  | .lit v => some v
  | .line k =>
    match lineResponse s base k with
    | some (.ok (.raw x)) => some x
    | _ => none

/-- The host events one line stands for in the state it is reached in. SAMPT and SAMPP are MKRAW and then COMPT or
COMPP of the raw sample MKRAW returns (R73). -/
def lineEvents (s : State) (base : Nat) : Line → Option (List HostEvent)
  | .request i => some [.request (encode i)]
  | .dec cw => (resolveWord s base cw).map fun w => [.request (encode (.dec w))]
  | .cmd dir cw => (resolveWord s base cw).map fun w => [.request (encode (decodeCmd dir w))]
  | .compt raw => (resolveRaw s base raw).map fun x => [.request (encode (.compt x))]
  | .compp raw => (resolveRaw s base raw).map fun x => [.request (encode (.compp x))]
  | .sampt B => some [.request (encode (.mkraw B)), .request (encode (.compt (raw20 B)))]
  | .sampp B => some [.request (encode (.mkraw B)), .request (encode (.compp (raw20 B)))]
  | .reset => some [.reset]

/-- Present events one at a time, the block taking each before the next (20_memory R51). -/
def runEvents : List HostEvent → State → Answer
  | [], s => .next s
  | e :: rest, s =>
    match step (s.present e) with
    | .next t => runEvents rest t
    | .fault f => .fault f
    | .refused r => .refused r

/-- A sequence executed top to bottom (R72). `none` where a `$k` names no result of the needed kind. -/
def runLines (base : Nat) : List Line → State → Option Answer
  | [], s => some (.next s)
  | l :: rest, s =>
    match lineEvents s base l with
    | none => none
    | some es =>
      match runEvents es s with
      | .next t => runLines base rest t
      | .fault f => some (.fault f)
      | .refused r => some (.refused r)

end Sys2Proof.Machine
end

