-- ==== Sys2Proof/Safety.lean ====
section
/-! DEFINITION. The terms the statements use: the document's formulas in unbounded integers and the predicates that
say when no step wraps (42_compensation R114, R121), the state invariant (10_state R27, 42_compensation R112), the
status table (60_exceptions R135, R137), and what a session's requests leave behind (10_state R25, R26). -/

namespace Sys2Proof.Machine

/-- `z` is of type sN (00_scope R6). -/
abbrev fitsS (N : Nat) (z : Int) : Prop :=
  -2 ^ (N - 1) ≤ z ∧ z ≤ 2 ^ (N - 1) - 1

/-- The unbounded product `x3*T2` of the temperature formula (R114). -/
def docX4 (raw t1 t2 : Int) : Int := (raw / 2 ^ 3 - t1 * 2) * t2

/-- The unbounded product `y1*y1` (R114). -/
def docY2 (raw t1 : Int) : Int := (raw / 2 ^ 4 - t1) * (raw / 2 ^ 4 - t1)

/-- The unbounded product `y3*T3` (R114). -/
def docY4 (raw t1 t3 : Int) : Int := docY2 raw t1 / 2 ^ 12 * t3

/-- The document's `t_fine` in unbounded integers with floor shifts (R112, R114). -/
def docFine (raw t1 t2 t3 : Int) : Int := docX4 raw t1 t2 / 2 ^ 11 + docY4 raw t1 t3 / 2 ^ 14

/-- The document's `T` in unbounded integers (R112, R114). -/
def docTemp (raw t1 t2 t3 : Int) : Int := (docFine raw t1 t2 t3 * 5 + 128) / 2 ^ 8

/-- `TempExact(raw, T1, T2, T3)` (R114): the three unbounded products fit in 32 bits. -/
abbrev TempExact (raw t1 t2 t3 : Int) : Prop :=
  fitsS 32 (docX4 raw t1 t2) ∧ fitsS 32 (docY2 raw t1) ∧ fitsS 32 (docY4 raw t1 t3)

/-- First `var1` of the pressure formula, unbounded. -/
def docA (tf : Int) : Int := tf - 128000

/-- Third `var2` of the pressure formula, unbounded: `b3`. -/
def docB (tf p4 p5 p6 : Int) : Int := docA tf * docA tf * p6 + docA tf * p5 * 2 ^ 17 + p4 * 2 ^ 35

/-- Second `var1` of the pressure formula, unbounded: `c`. -/
def docC (tf p2 p3 : Int) : Int := docA tf * docA tf * p3 / 2 ^ 8 + docA tf * p2 * 2 ^ 12

/-- `(2^47 + c) * P1`, unbounded. -/
def docE (tf p1 p2 p3 : Int) : Int := (2 ^ 47 + docC tf p2 p3) * p1

/-- Third `var1` of the pressure formula, unbounded: the divisor. -/
def docD (tf p1 p2 p3 : Int) : Int := docE tf p1 p2 p3 / 2 ^ 33

/-- The numerator of the quotient, unbounded. -/
def docN (raw tf p4 p5 p6 : Int) : Int := ((1048576 - raw) * 2 ^ 31 - docB tf p4 p5 p6) * 3125

/-- The document's `p` before the division by 256.0, from the quotient, in unbounded integers. -/
def docPressure (q p7 p8 p9 : Int) : Int :=
  (q + p9 * (q / 2 ^ 13) * (q / 2 ^ 13) / 2 ^ 25 + p8 * q / 2 ^ 19) / 2 ^ 8 + p7 * 2 ^ 4

/-- The part of `PresExact` (R121) that stands before the division: every unbounded value that R118 wraps there fits. -/
abbrev PresExactBefore (raw tf p1 p2 p3 p4 p5 p6 : Int) : Prop :=
  fitsS 64 (docA tf * docA tf * p6)
  ∧ fitsS 64 (docA tf * p5 * 2 ^ 17)
  ∧ fitsS 64 (docA tf * docA tf * p6 + docA tf * p5 * 2 ^ 17)
  ∧ fitsS 64 (docB tf p4 p5 p6)
  ∧ fitsS 64 (docA tf * docA tf * p3)
  ∧ fitsS 64 (docC tf p2 p3)
  ∧ fitsS 64 (2 ^ 47 + docC tf p2 p3)
  ∧ fitsS 64 (docE tf p1 p2 p3)
  ∧ fitsS 64 ((1048576 - raw) * 2 ^ 31 - docB tf p4 p5 p6)
  ∧ fitsS 64 (docN raw tf p4 p5 p6)

/-- The part of `PresExact` (R121) that stands after the division, for the quotient `q`. -/
abbrev PresExactAfter (q p7 p8 p9 : Int) : Prop :=
  fitsS 64 (p9 * (q / 2 ^ 13))
  ∧ fitsS 64 (p9 * (q / 2 ^ 13) * (q / 2 ^ 13))
  ∧ fitsS 64 (p8 * q)
  ∧ fitsS 64 (q + p9 * (q / 2 ^ 13) * (q / 2 ^ 13) / 2 ^ 25)
  ∧ fitsS 64 (q + p9 * (q / 2 ^ 13) * (q / 2 ^ 13) / 2 ^ 25 + p8 * q / 2 ^ 19)
  ∧ fitsS 64 (docPressure q p7 p8 p9)

/-- The document's divisor for the coefficients and `TF` a state holds. -/
def State.docDivisor (s : State) : Int :=
  docD s.tfValue (s.coef 3) (s.coef 4) (s.coef 5)

/-- The document's quotient, truncated toward zero (R8, R121). -/
def State.docQuotient (s : State) (raw : Raw) : Int :=
  Int.tdiv (docN (rawValue raw) s.tfValue (s.coef 6) (s.coef 7) (s.coef 8)) s.docDivisor

/-- `PresExact(raw, TF, P1..P9)` (R121) for the coefficients and `TF` a state holds. -/
abbrev State.PresExact (s : State) (raw : Raw) : Prop :=
  PresExactBefore (rawValue raw) s.tfValue (s.coef 3) (s.coef 4) (s.coef 5) (s.coef 6) (s.coef 7) (s.coef 8)
  ∧ PresExactAfter (s.docQuotient raw) (s.coef 9) (s.coef 10) (s.coef 11)

/-- The invariant of reachable states: `tf_valid` implies `cal_valid` (10_state R27), and a `TF` that a COMPT left
lies in the range 42_compensation R112 gives. -/
abbrev State.Inv (s : State) : Prop :=
  s.tfValid = true →
    s.calValid = true ∧ -1179648 ≤ s.tfValue ∧ s.tfValue ≤ 1179646

/-- Two states of the block that no operation can tell apart: the flags agree, and `CAL` and `TF` agree where the
flags say they hold a value (10_state R29). -/
abbrev State.sameVisible (s t : State) : Prop :=
  s.calValid = t.calValid ∧ s.tfValid = t.tfValid
  ∧ (s.calValid = true → s.cal = t.cal) ∧ (s.tfValid = true → s.tf = t.tf)

/-- The four items of 10_state R20 agree. -/
abbrev State.sameBlock (s t : State) : Prop :=
  s.cal = t.cal ∧ s.tf = t.tf ∧ s.calValid = t.calValid ∧ s.tfValid = t.tfValid

/-- The status and detail codes the table of 60_exceptions R135, with the causes of R131, R132 and the priority of
R137, gives an operation in a state. -/
def statusTable (i : Instr) (s : State) : Nat × Nat :=
  match i with
  | .enc _ _ _ => (0, 0)
  | .dec _ => (0, 0)
  | .cmdRd _ => (0, 0)
  | .cmdWr _ => (0, 0)
  | .cmdUnsup _ _ => (2, 1)
  | .bsrd _ => (0, 0)
  | .bswr _ _ => (0, 0)
  | .ldcal _ => if s.calValid then (1, 4) else (0, 0)
  | .mkraw _ => (0, 0)
  | .compt _ => if s.calValid then (0, 0) else (1, 1)
  | .compp _ =>
    if s.calValid = false then (1, 1)
    else if s.tfValid = false then (1, 2)
    else if s.divisor = 0 then (1, 3)
    else (0, 0)
  | .reserved9 => (2, 2)
  | .reservedA => (2, 2)
  | .reservedB => (2, 2)
  | .reservedC => (2, 2)
  | .reservedD => (2, 2)
  | .reservedE => (2, 2)
  | .reservedF => (2, 2)

/-- The operations that write no item of the block's state on any path (10_state R20, 60_exceptions R132). -/
def writesNothing : Instr → Bool
  | .ldcal _ => false
  | .compt _ => false
  | .enc _ _ _ => true
  | .dec _ => true
  | .cmdRd _ => true
  | .cmdWr _ => true
  | .cmdUnsup _ _ => true
  | .bsrd _ => true
  | .bswr _ _ => true
  | .mkraw _ => true
  | .compp _ => true
  | .reserved9 => true
  | .reservedA => true
  | .reservedB => true
  | .reservedC => true
  | .reservedD => true
  | .reservedE => true
  | .reservedF => true

/-- How many of the host's events are requests (70_reset R167). -/
def countRequests (es : List HostEvent) : Nat :=
  es.countP fun e => decide (e ≠ .reset)

/-- The operations presented since the last reset event of a list, oldest first, after those of `sofar`. -/
def sinceReset (sofar : List Instr) : List HostEvent → List Instr
  | [] => sofar
  | .reset :: rest => sinceReset [] rest
  | .request p :: rest => sinceReset (sofar ++ [decode p]) rest

/-- The block the first LDCAL of a session loads: later ones are refused (10_state R23). -/
def firstLoad : List Instr → Option CalBlock
  | [] => none
  | .ldcal B :: _ => some B
  | _ :: rest => firstLoad rest

/-- The sample of the last COMPT of a list, or `last` if there is none. -/
def lastSample (last : Option Raw) : List Instr → Option Raw
  | [] => last
  | .compt raw :: rest => lastSample (some raw) rest
  | _ :: rest => lastSample last rest

/-- The sample of the last COMPT a session presents after its first LDCAL: the last one that succeeds (R111). -/
def lastGoodSample : List Instr → Option Raw
  | [] => none
  | .ldcal _ :: rest => lastSample none rest
  | _ :: rest => lastGoodSample rest

end Sys2Proof.Machine
end

