-- ==== Sys2Proof/Certificates/Slice0/Obligations.lean ====
section
/-! DEFINITION. The statements for the provers. Each docstring names the sentence of the spec it formalises. A register
of CAL is written by the integer it stands for, `s.coef i` (10_state R22), and TF by `s.tfValue`. -/

open Sys2Proof Sys2Proof.Machine

/-! ### The register codec -/

/-- 40_codec R81: ENC packs its three fields, reads and writes nothing, and never fails. -/
def Obligations.EncPacksThreeFields : Prop :=
  (∀ p : Request, p.op = 0x0 → decode p = .enc p.length p.register p.value) ∧
  ∀ (l r v : Byte) (s : State), ∃ cw : Word,
    exec (.enc l r v) s = .next { s with responses := s.responses ++ [.ok (.word cw)] } ∧
    cw.toNat = l.toNat + r.toNat * 2 ^ 8 + v.toNat * 2 ^ 16 ∧ cw.toNat < 2 ^ 24

/-- 40_codec R82: DEC unpacks any word; bits [31:24] are ignored; it is total. -/
def Obligations.DecSplitsCommandWord : Prop :=
  (∀ p : Request, p.op = 0x1 → decode p = .dec p.cw) ∧
  (∀ (cw : Word) (s : State), ∃ l r v : Byte,
    exec (.dec cw) s = .next { s with responses := s.responses ++ [.ok (.fields l r v)] } ∧
    l.toNat = cw.toNat % 2 ^ 8 ∧ r.toNat = cw.toNat / 2 ^ 8 % 2 ^ 8 ∧ v.toNat = cw.toNat / 2 ^ 16 % 2 ^ 8) ∧
  ∀ (cw cw' : Word) (s : State), cw.toNat % 2 ^ 24 = cw'.toNat % 2 ^ 24 → exec (.dec cw) s = exec (.dec cw') s

/-- 40_codec section 2, the round trip: DEC of ENC is the identity on triples; ENC of DEC keeps bits [23:0] and is the
identity exactly below 2^24. -/
def Obligations.CodecRoundTrip : Prop :=
  (∀ (l r v : Byte) (s t : State), ∃ cw : Word,
    exec (.enc l r v) s = .next { s with responses := s.responses ++ [.ok (.word cw)] } ∧
    exec (.dec cw) t = .next { t with responses := t.responses ++ [.ok (.fields l r v)] }) ∧
  ∀ (cw : Word) (s t : State), ∃ (l r v : Byte) (cw' : Word),
    exec (.dec cw) s = .next { s with responses := s.responses ++ [.ok (.fields l r v)] } ∧
    exec (.enc l r v) t = .next { t with responses := t.responses ++ [.ok (.word cw')] } ∧
    cw'.toNat = cw.toNat % 2 ^ 24 ∧ (cw' = cw ↔ cw.toNat / 2 ^ 24 = 0)

/-- 40_codec R85: CMD with direction 0 is a read of `length` registers; the value field is ignored, a length of 0 is
passed on, and no bound on register + length is checked. -/
def Obligations.CmdReadsOnDirectionZero : Prop :=
  (∀ p : Request, p.op = 0x2 → p.dir = 0 → decode p = .cmdRd p.cw) ∧
  ∀ (cw : Word) (s : State), ∃ a n : Byte,
    exec (.cmdRd cw) s = .next { s with responses := s.responses ++ [.ok (.request (.read a n))] } ∧
    a.toNat = cw.toNat / 2 ^ 8 % 2 ^ 8 ∧ n.toNat = cw.toNat % 2 ^ 8

/-- 40_codec R86: CMD with direction 1 is a write of exactly one byte; the length field is ignored. -/
def Obligations.CmdWritesOnDirectionOne : Prop :=
  (∀ p : Request, p.op = 0x2 → p.dir = 1 → decode p = .cmdWr p.cw) ∧
  ∀ (cw : Word) (s : State), ∃ a x : Byte,
    exec (.cmdWr cw) s = .next { s with responses := s.responses ++ [.ok (.request (.write a x))] } ∧
    a.toNat = cw.toNat / 2 ^ 8 % 2 ^ 8 ∧ x.toNat = cw.toNat / 2 ^ 16 % 2 ^ 8

/-- 40_codec R87: CMD with any other direction raises BadDirection; every result port is zero, no state changes, and
the command word is not examined. -/
def Obligations.CmdRejectsOtherDirections : Prop :=
  (∀ p : Request, p.op = 0x2 → 2 ≤ p.dir.toNat → decode p = .cmdUnsup p.dir p.cw) ∧
  (∀ (dir cw : Word) (s : State), 2 ≤ dir.toNat →
    exec (.cmdUnsup dir cw) s =
      .next { s with responses := s.responses ++ [.error (.unsupportedCommand .badDirection)] }) ∧
  (Response.error (.unsupportedCommand .badDirection)).ports = portsZero 2 1 ∧
  RequestValue.none.ports.kind = 0 ∧ RequestValue.none.ports.addr = 0 ∧ RequestValue.none.ports.n = 0 ∧
  RequestValue.none.ports.v = 0

/-- 40_codec R84: the pseudocode of CMD, for every request of select 0x2. -/
def Obligations.CmdClassifiesByDirection : Prop :=
  ∀ (p : Request) (s : State), p.op = 0x2 → ∃ l r v : Byte,
    l.toNat = p.cw.toNat % 2 ^ 8 ∧ r.toNat = p.cw.toNat / 2 ^ 8 % 2 ^ 8 ∧ v.toNat = p.cw.toNat / 2 ^ 16 % 2 ^ 8 ∧
    exec (decode p) s = .next { s with responses := s.responses ++
      [if p.dir.toNat = 0 then .ok (.request (.read r l))
       else if p.dir.toNat = 1 then .ok (.request (.write r v))
       else .error (.unsupportedCommand .badDirection)] }

/-- 40_codec R88: BSRD of byte 0 is a read of one register. -/
def Obligations.BsrdReadsOneRegister : Prop :=
  (∀ p : Request, p.op = 0x3 → decode p = .bsrd p.b0) ∧
  ∀ (b0 : Byte) (s : State),
    exec (.bsrd b0) s = .next { s with responses := s.responses ++ [.ok (.request (.read b0 1))] }

/-- 30_encoding R63: the write frame is byte 0 the register and byte 1 the value, exactly two bytes; BSWR answers the
write of that one byte (40_codec, section 4). -/
def Obligations.BswrFrameIsRegisterThenValue : Prop :=
  (∀ p : Request, p.op = 0x4 → decode p = .bswr p.b0 p.b1) ∧
  ∀ (b0 b1 : Byte) (s : State),
    exec (.bswr b0 b1) s = .next { s with responses := s.responses ++ [.ok (.request (.write b0 b1))] }

/-- 40_codec section 4, the spec's own inference beside BSWR: `BSWR r, v` and CMD with direction 1 of `ENC(l, r, v)`
give the same response for every l, in every state; likewise BSRD and CMD with direction 0 of `ENC(1, r, v)`. -/
def Obligations.ByteStreamAgreesWithCommand : Prop :=
  ∀ (l r v : Byte) (s : State), ∃ cw cw1 : Word,
    exec (.enc l r v) s = .next { s with responses := s.responses ++ [.ok (.word cw)] } ∧
    exec (.enc 1 r v) s = .next { s with responses := s.responses ++ [.ok (.word cw1)] } ∧
    ∀ t : State, exec (.cmdWr cw) t = exec (.bswr r v) t ∧ exec (.cmdRd cw1) t = exec (.bsrd r) t

/-- 40_codec section 5 and 10_state section 1: the five codec operations, MKRAW and the reserved selects answer the
same in every state and change nothing of the block, so they work before calibration is loaded. An unsupported
direction answers BadDirection, a reserved select ReservedOp, and every other of these operations `Ok`. -/
def Obligations.StatelessOperationsIgnoreState : Prop :=
  ∀ i : Instr, i.wf = true → writesNothing i = true → (∀ raw, i ≠ .compp raw) → ∃ r : Response,
    (∀ s : State, exec i s = .next { s with responses := s.responses ++ [r] }) ∧
    (∀ dir cw, i = .cmdUnsup dir cw → r = .error (.unsupportedCommand .badDirection)) ∧
    (0x9#4 ≤ i.select → r = .error (.unsupportedCommand .reservedOp)) ∧
    ((∀ dir cw, i ≠ .cmdUnsup dir cw) → i.select < 0x9#4 → ∃ v, r = .ok v)

/-! ### The input stage -/

/-- 20_memory R43: coefficient i is loaded from bytes 2i (low) and 2i+1 (high) of the calibration block, all twelve at
once, when no calibration is loaded yet. -/
def Obligations.LdcalLoadsPairsInOrder : Prop :=
  (∀ p : Request, p.op = 0x5 → decode p = .ldcal p.calblk) ∧
  ∀ (B : CalBlock) (s : State), s.calValid = false → ∃ loaded : Vector Coef 12,
    exec (.ldcal B) s =
      .next { s with cal := loaded, calValid := true, responses := s.responses ++ [.ok .loaded] } ∧
    ∀ i : Fin 12, (loaded[i]).toNat = (B.bytes[2 * i.val]).toNat + (B.bytes[2 * i.val + 1]).toNat * 2 ^ 8

/-- 10_state R23: CAL is written only by a successful LDCAL and then never until reset, in any run of the machine from any state;
LDCAL with cal_valid = 1 changes nothing and raises CalAlreadyLoaded; and no operation returns CAL: the operations that
do not compute with it answer the same whatever it holds. -/
def Obligations.CalibrationIsWrittenOnce : Prop :=
  (∀ (i : Instr) (s t : State), exec i s = .next t → t.cal ≠ s.cal →
    s.calValid = false ∧ t.calValid = true ∧ ∃ B, i = .ldcal B ∧ t.cal = calOfBlock B) ∧
  (∀ (n : Nat) (s t : State), s.calValid = true → HostEvent.reset ∉ s.inputs →
    Host.Core.run core n s = .next t → t.cal = s.cal ∧ t.calValid = true) ∧
  (∀ (B : CalBlock) (s : State), s.calValid = true →
    exec (.ldcal B) s = .next { s with responses := s.responses ++ [.error (.domainError .calAlreadyLoaded)] }) ∧
  ∀ (i : Instr) (s : State) (other : Vector Coef 12), (∀ raw, i ≠ .compt raw ∧ i ≠ .compp raw) → ∃ (r : Response) (t u : State),
    exec i s = .next t ∧ exec i { s with cal := other } = .next u ∧
    t.responses = s.responses ++ [r] ∧ u.responses = s.responses ++ [r]

/-- 10_state section 2 and 00_scope section 4: T1 and P1 stand for the unsigned value of their pattern, the other ten
for its two's-complement value. The two's complement is what the spec itself marks as general knowledge (G6, log entry
10). -/
def Obligations.CoefficientsReadBySignedness : Prop :=
  ∀ (s : State) (i : Fin 12),
    (i = 0 ∨ i = 3 → s.coef i = (s.cal[i]).toNat ∧ 0 ≤ s.coef i ∧ s.coef i ≤ 65535) ∧
    (i ≠ 0 → i ≠ 3 → s.coef i = (s.cal[i]).toInt ∧ -32768 ≤ s.coef i ∧ s.coef i ≤ 32767)

/-- 41_calibration_and_raw R102, R103: MKRAW joins the three bytes and discards the low four bits of the last, in
every state. -/
def Obligations.MkrawAssemblesSample : Prop :=
  (∀ p : Request, p.op = 0x6 → decode p = .mkraw p.meas) ∧
  ∀ (B : MeasBlock) (s : State), ∃ x : Raw,
    exec (.mkraw B) s = .next { s with responses := s.responses ++ [.ok (.raw x)] } ∧
    x.toNat = B.msb.toNat * 2 ^ 12 + B.lsb.toNat * 2 ^ 4 + B.xlsb.toNat / 2 ^ 4

/-! ### COMPT -/

/-- 42_compensation R111: COMPT without calibration raises CalNotLoaded and changes nothing; it reads cal_valid and
CAL[0..2] only. -/
def Obligations.ComptNeedsCalibration : Prop :=
  (∀ p : Request, p.op = 0x7 → decode p = .compt p.raw) ∧
  (∀ (raw : Raw) (s : State), s.calValid = false →
    exec (.compt raw) s = .next { s with responses := s.responses ++ [.error (.domainError .calNotLoaded)] }) ∧
  ∀ (raw : Raw) (s t : State), s.calValid = t.calValid →
    s.cal[0] = t.cal[0] → s.cal[1] = t.cal[1] → s.cal[2] = t.cal[2] → ∃ (r : Response) (s' t' : State),
      exec (.compt raw) s = .next s' ∧ exec (.compt raw) t = .next t' ∧
      s'.responses = s.responses ++ [r] ∧ t'.responses = t.responses ++ [r] ∧
      (s.calValid = true → s'.tf = t'.tf)

/-- 42_compensation R113, with the computation the rule refers to written out step by step at 32 bits: TF becomes
`tf`, tf_valid becomes 1, and the response is `Ok(T)`, reporting T / 100 degrees. -/
def Obligations.ComptComputesTemperature : Prop :=
  ∀ (raw : Raw) (s : State), s.calValid = true →
    let w := fun z : Int => Int.bmod z (2 ^ 32)
    let x1 : Int := (raw.toNat : Int) / 2 ^ 3
    let x2 := w (s.coef 0 * 2 ^ 1)
    let x3 := w (x1 - x2)
    let x4 := w (x3 * s.coef 1)
    let var1 := x4 / 2 ^ 11
    let y1 := w ((raw.toNat : Int) / 2 ^ 4 - s.coef 0)
    let y2 := w (y1 * y1)
    let y3 := y2 / 2 ^ 12
    let y4 := w (y3 * s.coef 2)
    let var2 := y4 / 2 ^ 14
    let tf := w (var1 + var2)
    let m := w (tf * 5)
    let a := w (m + 128)
    let T := a / 2 ^ 8
    ∃ tfPattern tPattern : Word, tfPattern.toInt = tf ∧ tPattern.toInt = T ∧ celsius tPattern = (T : Rat) / 100 ∧
      exec (.compt raw) s =
        .next { s with tf := tfPattern, tfValid := true
                       responses := s.responses ++ [.ok (.temperature tPattern)] }

/-- 42_compensation section 2, the spec's own derivation of ranges: what each step of the temperature computation can
hold, and which steps never wrap. -/
def Obligations.TemperatureStepsStayInRange : Prop :=
  ∀ (raw : Raw) (s : State),
    let w := fun z : Int => Int.bmod z (2 ^ 32)
    let x1 : Int := (raw.toNat : Int) / 2 ^ 3
    let x2 := s.coef 0 * 2 ^ 1
    let x3 := x1 - x2
    let var1 := w (x3 * s.coef 1) / 2 ^ 11
    let y1 := (raw.toNat : Int) / 2 ^ 4 - s.coef 0
    let y3 := w (y1 * y1) / 2 ^ 12
    let var2 := w (y3 * s.coef 2) / 2 ^ 14
    let tf := var1 + var2
    (0 ≤ x1 ∧ x1 ≤ 131071) ∧ (0 ≤ x2 ∧ x2 ≤ 131070) ∧ (-131070 ≤ x3 ∧ x3 ≤ 131071) ∧
    (-1048576 ≤ var1 ∧ var1 ≤ 1048575) ∧ (-65535 ≤ y1 ∧ y1 ≤ 65535) ∧ (-524288 ≤ y3 ∧ y3 ≤ 524287) ∧
    (-131072 ≤ var2 ∧ var2 ≤ 131071) ∧ (-1179648 ≤ tf ∧ tf ≤ 1179646) ∧
    w x2 = x2 ∧ w x3 = x3 ∧ w y1 = y1 ∧ w tf = tf ∧ w (tf * 5) = tf * 5 ∧ w (tf * 5 + 128) = tf * 5 + 128 ∧
    (-23040 ≤ (tf * 5 + 128) / 2 ^ 8 ∧ (tf * 5 + 128) / 2 ^ 8 ≤ 23040) ∧
    tempFine raw.toNat (s.coef 0) (s.coef 1) (s.coef 2) = tf

/-- 42_compensation section 2, exactness: where the three products fit in 32 bits, COMPT answers the document's
formulas evaluated in unbounded integers. -/
def Obligations.TemperatureIsExactWithoutOverflow : Prop :=
  ∀ (raw : Raw) (s : State), s.calValid = true →
    TempExact (rawValue raw) (s.coef 0) (s.coef 1) (s.coef 2) →
    ∃ tfPattern tPattern : Word,
      tfPattern.toInt = docFine (rawValue raw) (s.coef 0) (s.coef 1) (s.coef 2) ∧
      tPattern.toInt = docTemp (rawValue raw) (s.coef 0) (s.coef 1) (s.coef 2) ∧
      exec (.compt raw) s =
        .next { s with tf := tfPattern, tfValid := true
                       responses := s.responses ++ [.ok (.temperature tPattern)] }

/-- 42_compensation section 2, the sufficient condition for `TempExact` that the spec gives: under it, with cal_valid =
1, COMPT leaves in TF and answers the document's formulas evaluated in unbounded integers. -/
def Obligations.SmallProductsAreTempExact : Prop :=
  ∀ (raw : Raw) (s : State),
    |rawValue raw / 2 ^ 3 - 2 * s.coef 0| * |s.coef 1| < 2 ^ 31 →
    |rawValue raw / 2 ^ 4 - s.coef 0| ≤ 46340 →
    (rawValue raw / 2 ^ 4 - s.coef 0) * (rawValue raw / 2 ^ 4 - s.coef 0) / 2 ^ 12 * |s.coef 2| < 2 ^ 31 →
    TempExact (rawValue raw) (s.coef 0) (s.coef 1) (s.coef 2) ∧
    (s.calValid = true → ∃ tfPattern tPattern : Word,
      tfPattern.toInt = docFine (rawValue raw) (s.coef 0) (s.coef 1) (s.coef 2) ∧
      tPattern.toInt = docTemp (rawValue raw) (s.coef 0) (s.coef 1) (s.coef 2) ∧
      exec (.compt raw) s =
        .next { s with tf := tfPattern, tfValid := true
                       responses := s.responses ++ [.ok (.temperature tPattern)] })

/-! ### COMPP -/

/-- 42_compensation R117: COMPP tests cal_valid, then tf_valid, before anything is computed; an unset TF is an error;
it does not read CAL[0..2] and writes nothing. -/
def Obligations.ComppTestsCalibrationThenTemperature : Prop :=
  (∀ p : Request, p.op = 0x8 → decode p = .compp p.raw) ∧
  (∀ (raw : Raw) (s : State), s.calValid = false →
    exec (.compp raw) s = .next { s with responses := s.responses ++ [.error (.domainError .calNotLoaded)] }) ∧
  (∀ (raw : Raw) (s : State), s.calValid = true → s.tfValid = false →
    exec (.compp raw) s = .next { s with responses := s.responses ++ [.error (.domainError .tFineUnset)] }) ∧
  (∀ (raw : Raw) (s t : State), exec (.compp raw) s = .next t → t.sameBlock s) ∧
  ∀ (raw : Raw) (s t : State), s.calValid = t.calValid → s.tfValid = t.tfValid → s.tf = t.tf →
    (∀ i : Fin 12, 3 ≤ i.val → s.cal[i] = t.cal[i]) → ∃ r : Response,
      exec (.compp raw) s = .next { s with responses := s.responses ++ [r] } ∧
      exec (.compp raw) t = .next { t with responses := t.responses ++ [r] }

/-- 42_compensation R120, with the computation the rule refers to written out step by step at 64 bits: where both
flags are set and the divisor is not zero, COMPP answers `Ok(p)`, reporting p / 256 pascals, and writes nothing. -/
def Obligations.ComppComputesPressure : Prop :=
  ∀ (raw : Raw) (s : State), s.calValid = true → s.tfValid = true → s.divisor ≠ 0 →
    let w := fun z : Int => Int.bmod z (2 ^ 64)
    let a := w (s.tfValue - 128000)
    let sq := w (a * a)
    let b1 := w (sq * s.coef 8)
    let b2 := w (b1 + w (w (a * s.coef 7) * 2 ^ 17))
    let b3 := w (b2 + w (s.coef 6 * 2 ^ 35))
    let c1 := w (sq * s.coef 5) / 2 ^ 8
    let c2 := w (w (a * s.coef 4) * 2 ^ 12)
    let c := w (c1 + c2)
    let e := w (w (2 ^ 47 + c) * s.coef 3)
    let d := e / 2 ^ 33
    let p0 : Int := 1048576 - (raw.toNat : Int)
    let n1 := w (w (p0 * 2 ^ 31) - b3)
    let n := w (n1 * 3125)
    let p1 := w (Int.tdiv n d)
    let q := p1 / 2 ^ 13
    let e1 := w (w (s.coef 11 * q) * q) / 2 ^ 25
    let e2 := w (s.coef 10 * p1) / 2 ^ 19
    let p := w (w (w (p1 + e1) + e2) / 2 ^ 8 + w (s.coef 9 * 2 ^ 4))
    s.divisor = d ∧
    ∃ pattern : DWord, pattern.toInt = p ∧ pascals pattern = (p : Rat) / 256 ∧
      exec (.compp raw) s = .next { s with responses := s.responses ++ [.ok (.pressure pattern)] }

/-- 42_compensation section 3, the zero divisor: with both flags set COMPP raises ZeroDivisor exactly when d is 0, and
then changes nothing; d is 0 exactly when 0 <= e <= 2^33 - 1; so it is whenever P1 is 0, and whenever 2^47 + c is 0;
a small negative e gives d = -1; and the test depends on TF, P1, P2, P3 only. -/
def Obligations.ComppRaisesOnZeroDivisor : Prop :=
  (∀ (raw : Raw) (s : State), s.calValid = true → s.tfValid = true →
    (exec (.compp raw) s = .next { s with responses := s.responses ++ [.error (.domainError .zeroDivisor)] } ↔
      s.divisor = 0)) ∧
  (∀ s : State, s.divisor = 0 ↔
    0 ≤ presE s.tfValue (s.coef 3) (s.coef 4) (s.coef 5) ∧
    presE s.tfValue (s.coef 3) (s.coef 4) (s.coef 5) ≤ 2 ^ 33 - 1) ∧
  (∀ s : State, s.coef 3 = 0 → s.divisor = 0) ∧
  (∀ s : State, 2 ^ 47 + presC s.tfValue (s.coef 4) (s.coef 5) = 0 → s.divisor = 0) ∧
  (∀ s : State, -2 ^ 33 ≤ presE s.tfValue (s.coef 3) (s.coef 4) (s.coef 5) →
    presE s.tfValue (s.coef 3) (s.coef 4) (s.coef 5) < 0 → s.divisor = -1) ∧
  ∀ s t : State, s.tf = t.tf → s.cal[3] = t.cal[3] → s.cal[4] = t.cal[4] → s.cal[5] = t.cal[5] →
    s.divisor = t.divisor

/-- 42_compensation section 3, exactness: where every unbounded value fits in 64 bits, COMPP tests the document's
divisor and answers the document's formula in unbounded integers with floor shifts and a truncating division. -/
def Obligations.PressureIsExactWithoutOverflow : Prop :=
  ∀ (raw : Raw) (s : State), s.calValid = true → s.tfValid = true → s.PresExact raw → s.docDivisor ≠ 0 →
    ∃ pattern : DWord,
      pattern.toInt = docPressure (s.docQuotient raw) (s.coef 9) (s.coef 10) (s.coef 11) ∧
      exec (.compp raw) s = .next { s with responses := s.responses ++ [.ok (.pressure pattern)] }

/-- 42_compensation section 3: the steps of the pressure computation that the spec says never wrap, the range of p0,
and the range of the divisor. -/
def Obligations.PressureStepsThatNeverWrap : Prop :=
  ∀ (raw : Raw) (s : State),
    presA s.tfValue = s.tfValue - 128000 ∧
    presSq s.tfValue = (s.tfValue - 128000) * (s.tfValue - 128000) ∧
    shlP (mulP (presA s.tfValue) (s.coef 4)) 12 = (s.tfValue - 128000) * s.coef 4 * 2 ^ 12 ∧
    shlP (s.coef 6) 35 = s.coef 6 * 2 ^ 35 ∧
    (1 ≤ presP0 (rawValue raw) ∧ presP0 (rawValue raw) ≤ 1048576) ∧
    shlP (presP0 (rawValue raw)) 31 = presP0 (rawValue raw) * 2 ^ 31 ∧
    (-2 ^ 30 ≤ s.divisor ∧ s.divisor ≤ 2 ^ 30 - 1)

/-- 42_compensation R123: tf_valid is never cleared between resets and COMPP uses whatever TF holds. After COMPT(r1)
and COMPT(r2), COMPP(q) answers as after COMPT(r2) alone; a second COMPP sees the same TF as the first. -/
def Obligations.StaleFineIsUsedAsIs : Prop :=
  (∀ (i : Instr) (s t : State), exec i s = .next t → s.tfValid = true → t.tfValid = true) ∧
  (∀ (r1 r2 q : Raw) (s s1 s2 s2' : State), s.calValid = true →
    exec (.compt r1) s = .next s1 → exec (.compt r2) s1 = .next s2 → exec (.compt r2) s = .next s2' →
    s2.sameBlock s2' ∧
    ∃ r : Response, exec (.compp q) s2 = .next { s2 with responses := s2.responses ++ [r] } ∧
      exec (.compp q) s2' = .next { s2' with responses := s2'.responses ++ [r] }) ∧
  ∀ (q q' : Raw) (s s1 : State), exec (.compp q) s = .next s1 → ∃ r : Response,
    exec (.compp q') s1 = .next { s1 with responses := s1.responses ++ [r] } ∧
    exec (.compp q') s = .next { s with responses := s.responses ++ [r] }

/-- 42_compensation R124: COMPT and COMPP depend only on their operand and the four state items; their only failures
are the three domain errors; an operation that raises writes nothing. -/
def Obligations.CompensationFailuresAreDomainErrors : Prop :=
  ∀ (i : Instr) (raw : Raw), i = .compt raw ∨ i = .compp raw →
    (∀ s t : State, s.sameBlock t → ∃ (r : Response) (s' t' : State),
      exec i s = .next s' ∧ exec i t = .next t' ∧ s'.sameBlock t' ∧
      s'.responses = s.responses ++ [r] ∧ t'.responses = t.responses ++ [r]) ∧
    ∀ (s s' : State) (e : ErrorKind), exec i s = .next s' → s'.responses = s.responses ++ [.error e] →
      (e = .domainError .calNotLoaded ∨ e = .domainError .tFineUnset ∨ e = .domainError .zeroDivisor) ∧
      s'.sameBlock s

/-! ### The datapaths as circuits -/

/-- 00_scope section 4 and 42_compensation section 2: the temperature computation on integers with explicit wraps is
what a 32-bit two's-complement datapath computes, for every sample and every coefficient pattern. Rests on the two's
complement of stored coefficients (G6, log entry 10). -/
def Obligations.TemperatureCircuitAgrees : Prop :=
  ∀ (raw : Raw) (s : State), s.calValid = true →
    exec (.compt raw) s =
      .next { s with tf := tempFineCircuit raw s.cal[0] s.cal[1] s.cal[2], tfValid := true
                     responses := s.responses ++
                       [.ok (.temperature (tempResultCircuit (tempFineCircuit raw s.cal[0] s.cal[1] s.cal[2])))] }

/-- 00_scope section 4 and 42_compensation section 3: the pressure computation on integers with explicit wraps is what
a 64-bit two's-complement datapath with a truncating divider computes, for every TF and every coefficient pattern.
Rests on the two's complement of stored coefficients (G6, log entry 10). -/
def Obligations.PressureCircuitAgrees : Prop :=
  ∀ (raw : Raw) (s : State), s.calValid = true → s.tfValid = true →
    let d := divisorCircuit s.tf s.cal[3] s.cal[4] s.cal[5]
    let n := numeratorCircuit raw s.tf s.cal[6] s.cal[7] s.cal[8]
    exec (.compp raw) s =
      .next { s with responses := s.responses ++
        [if d = 0 then .error (.domainError .zeroDivisor)
         else .ok (.pressure (pressureCircuit (n.sdiv d) s.cal[9] s.cal[10] s.cal[11]))] }

/-! ### Errors -/

/-- 60_exceptions R138: an operation that raises changes no state; its response, with zero in every result port, is
the whole of its effect. -/
def Obligations.ErrorsChangeNothing : Prop :=
  ∀ (i : Instr) (s t : State) (e : ErrorKind), exec i s = .next t → t.responses = s.responses ++ [.error e] →
    t = { s with responses := s.responses ++ [.error e] } ∧
    (Response.error e).ports = portsZero (Response.error e).status (Response.error e).detail

/-- 60_exceptions section 3: an error is not sticky. After it the block answers every operation as if the failed one
had never been presented, so repeating the failed one gives the same error; LDCAL cures CalNotLoaded, COMPT cures
TFineUnset, and ZeroDivisor stays for good when P1 is 0. -/
def Obligations.ErrorsAreNotSticky : Prop :=
  (∀ (i j : Instr) (s t : State) (e : ErrorKind), exec i s = .next t → t.responses = s.responses ++ [.error e] →
    ∃ (r : Response) (t' s' : State), exec j t = .next t' ∧ exec j s = .next s' ∧ t'.sameBlock s' ∧
      t'.responses = t.responses ++ [r] ∧ s'.responses = s.responses ++ [r] ∧ (j = i → r = .error e)) ∧
  (∀ (B : CalBlock) (raw : Raw) (s : State), s.calValid = false → ∃ s1 s2 : State, ∃ t : Word,
    exec (.ldcal B) s = .next s1 ∧ exec (.compt raw) s1 = .next s2 ∧
    s2.responses = s.responses ++ [.ok .loaded, .ok (.temperature t)]) ∧
  (∀ (raw q : Raw) (s : State), s.calValid = true → ∃ (s1 s2 : State) (r : Response),
    exec (.compt raw) s = .next s1 ∧ exec (.compp q) s1 = .next s2 ∧ s2.responses = s1.responses ++ [r] ∧
    r ≠ .error (.domainError .tFineUnset) ∧
    (s.coef 3 = 0 → r = .error (.domainError .zeroDivisor)))

/-- 60_exceptions sections 1 and 2: the table of which operation returns which status, with the cause of each error
and the priority among the causes of COMPP; every operation answers exactly once. -/
def Obligations.StatusFollowsTheTable : Prop :=
  ∀ (i : Instr) (s : State), i.wf = true → ∃ (t : State) (r : Response),
    exec i s = .next t ∧ t.responses = s.responses ++ [r] ∧ (r.status, r.detail) = statusTable i s

/-- 60_exceptions section 1: TransportError and BufferFault are the host's; the block never raises them. -/
def Obligations.HostErrorsAreNeverRaised : Prop :=
  ∀ (s t : State), step s = .next t → ∃ rs : List Response, t.responses = s.responses ++ rs ∧
    Response.error .transportError ∉ rs ∧ Response.error .bufferFault ∉ rs

/-- 60_exceptions R132: UnsupportedCommand has two causes, told by the select and the direction of the request; in
both the block does nothing and returns zero in every result port. -/
def Obligations.UnsupportedCommandHasTwoCauses : Prop :=
  ∀ (p : Request) (s : State),
    (exec (decode p) s =
        .next { s with responses := s.responses ++ [.error (.unsupportedCommand .badDirection)] } ↔
      p.op = 0x2 ∧ 2 ≤ p.dir.toNat) ∧
    (exec (decode p) s =
        .next { s with responses := s.responses ++ [.error (.unsupportedCommand .reservedOp)] } ↔
      9 ≤ p.op.toNat) ∧
    ∀ c : UnsupportedCause, ∃ k : Nat, (Response.error (.unsupportedCommand c)).ports = portsZero 2 k

/-- 60_exceptions R131: the four causes of DomainError, which operation raises each and when. -/
def Obligations.DomainErrorHasFourCauses : Prop :=
  ∀ (i : Instr) (s t : State), exec i s = .next t →
    (t.responses = s.responses ++ [.error (.domainError .calNotLoaded)] ↔
      s.calValid = false ∧ ∃ raw, i = .compt raw ∨ i = .compp raw) ∧
    (t.responses = s.responses ++ [.error (.domainError .tFineUnset)] ↔
      s.calValid = true ∧ s.tfValid = false ∧ ∃ raw, i = .compp raw) ∧
    (t.responses = s.responses ++ [.error (.domainError .zeroDivisor)] ↔
      s.calValid = true ∧ s.tfValid = true ∧ s.divisor = 0 ∧ ∃ raw, i = .compp raw) ∧
    (t.responses = s.responses ++ [.error (.domainError .calAlreadyLoaded)] ↔
      s.calValid = true ∧ ∃ B, i = .ldcal B)

/-- 30_encoding section 4, the reserved selects: each of 0x9 to 0xF answers ReservedOp and does nothing else, whatever
its operand ports hold. -/
def Obligations.ReservedSelectsAnswerReservedOp : Prop :=
  (∀ i : Instr, i = .reserved9 ∨ i = .reservedA ∨ i = .reservedB ∨ i = .reservedC ∨ i = .reservedD ∨
      i = .reservedE ∨ i = .reservedF → ∀ s : State,
    exec i s = .next { s with responses := s.responses ++ [.error (.unsupportedCommand .reservedOp)] }) ∧
  ∀ p : Request, 9 ≤ p.op.toNat → decode p = decode (Request.zeros p.op) ∧ (decode p).select = p.op

/-! ### The whole machine -/

/-- 30_encoding R70: every bit pattern a host can present has a defined outcome, row by row of the table. An unsupported
direction and a reserved select are no-ops with every result port zero; bits [31:24] of a command word, the value field
of a read and the length field of a write are ignored, a length of 0 is passed on, the low four bits of the last
measurement byte are ignored, and every codec operation passes any register address through. -/
def Obligations.EveryRequestHasADefinedOutcome : Prop :=
  (∀ (p : Request) (s : State), ∃ (t : State) (r : Response),
    exec (decode p) s = .next t ∧ t.responses = s.responses ++ [r]) ∧
  (∀ (p : Request) (s : State), p.op = 0x2 → 2 ≤ p.dir.toNat →
    exec (decode p) s =
      .next { s with responses := s.responses ++ [.error (.unsupportedCommand .badDirection)] }) ∧
  (∀ (p : Request) (s : State), 9 ≤ p.op.toNat →
    exec (decode p) s =
      .next { s with responses := s.responses ++ [.error (.unsupportedCommand .reservedOp)] }) ∧
  ((Response.error (.unsupportedCommand .badDirection)).ports = portsZero 2 1 ∧
    (Response.error (.unsupportedCommand .reservedOp)).ports = portsZero 2 2) ∧
  (∀ (p : Request) (s : State), p.op = 0x0 → ∃ cw : Word,
    cw.toNat = p.length.toNat + p.register.toNat * 2 ^ 8 + p.value.toNat * 2 ^ 16 ∧
    exec (decode p) s = .next { s with responses := s.responses ++ [.ok (.word cw)] }) ∧
  (∀ (p : Request) (s : State), p.op = 0x1 → ∃ l r v : Byte,
    l.toNat = p.cw.toNat % 2 ^ 8 ∧ r.toNat = p.cw.toNat / 2 ^ 8 % 2 ^ 8 ∧ v.toNat = p.cw.toNat / 2 ^ 16 % 2 ^ 8 ∧
    exec (decode p) s = .next { s with responses := s.responses ++ [.ok (.fields l r v)] }) ∧
  (∀ (p : Request) (s : State), p.op = 0x2 → p.dir = 0 → ∃ r l : Byte,
    r.toNat = p.cw.toNat / 2 ^ 8 % 2 ^ 8 ∧ l.toNat = p.cw.toNat % 2 ^ 8 ∧
    exec (decode p) s = .next { s with responses := s.responses ++ [.ok (.request (.read r l))] }) ∧
  (∀ (p : Request) (s : State), p.op = 0x2 → p.dir = 0 → p.cw.toNat % 2 ^ 8 = 0 → ∃ r : Byte,
    r.toNat = p.cw.toNat / 2 ^ 8 % 2 ^ 8 ∧
    exec (decode p) s = .next { s with responses := s.responses ++ [.ok (.request (.read r 0))] }) ∧
  (∀ (p : Request) (s : State), p.op = 0x2 → p.dir = 1 → ∃ r v : Byte,
    r.toNat = p.cw.toNat / 2 ^ 8 % 2 ^ 8 ∧ v.toNat = p.cw.toNat / 2 ^ 16 % 2 ^ 8 ∧
    exec (decode p) s = .next { s with responses := s.responses ++ [.ok (.request (.write r v))] }) ∧
  (∀ (p : Request) (s : State), p.op = 0x3 →
    exec (decode p) s = .next { s with responses := s.responses ++ [.ok (.request (.read p.b0 1))] }) ∧
  (∀ (p : Request) (s : State), p.op = 0x4 →
    exec (decode p) s = .next { s with responses := s.responses ++ [.ok (.request (.write p.b0 p.b1))] }) ∧
  ∀ (p : Request) (s : State), p.op = 0x6 → ∃ x : Raw,
    x.toNat = p.meas.msb.toNat * 2 ^ 12 + p.meas.lsb.toNat * 2 ^ 4 + p.meas.xlsb.toNat / 2 ^ 4 ∧
    exec (decode p) s = .next { s with responses := s.responses ++ [.ok (.raw x)] }

/-- 10_state section 1 and 30_encoding section 2, the state columns of the two tables: what each operation leaves
unchanged. Every operation leaves the host's list and the session number alone and adds one response; all but LDCAL
and COMPT leave all four items; LDCAL leaves TF and tf_valid; COMPT leaves CAL and cal_valid. -/
def Obligations.OperationsWriteOnlyTheirItems : Prop :=
  ∀ (i : Instr) (s t : State), exec i s = .next t →
    t.inputs = s.inputs ∧ t.session = s.session ∧ (∃ r : Response, t.responses = s.responses ++ [r]) ∧
    (writesNothing i = true → t.sameBlock s) ∧
    (∀ B, i = .ldcal B → t.tf = s.tf ∧ t.tfValid = s.tfValid) ∧
    (∀ raw, i = .compt raw → t.cal = s.cal ∧ t.calValid = s.calValid)

/-- 10_state R24: TF is 32 bits, written only by COMPT and read only by COMPP, and no operation returns it. Whatever TF
holds, every operation but COMPP gives the same response and leaves the same CAL and flags, and a COMPT that succeeds
leaves the same new TF. -/
def Obligations.FineIsWrittenByComptAndReadByCompp : Prop :=
  (∀ (i : Instr) (s t : State), exec i s = .next t → t.tf ≠ s.tf → ∃ raw, i = .compt raw) ∧
  ∀ (i : Instr) (s : State) (x : BitVec 32), (∀ raw, i ≠ .compp raw) → ∃ (r : Response) (t u : State),
    exec i s = .next t ∧ exec i { s with tf := x } = .next u ∧
    t.responses = s.responses ++ [r] ∧ u.responses = s.responses ++ [r] ∧
    t.cal = u.cal ∧ t.calValid = u.calValid ∧ t.tfValid = u.tfValid ∧
    (∀ raw, i = .compt raw → s.calValid = true → t.tf = u.tf)

/-- 10_state R30: a response depends only on the operands and the four state items; so does what is left in them. -/
def Obligations.ResponseDependsOnlyOnTheFourItems : Prop :=
  ∀ (i : Instr) (s t : State), s.sameBlock t → ∃ (r : Response) (s' t' : State),
    exec i s = .next s' ∧ exec i t = .next t' ∧
    s'.responses = s.responses ++ [r] ∧ t'.responses = t.responses ++ [r] ∧ s'.sameBlock t'

/-- 10_state section 4 and 42_compensation section 2: the invariant (tf_valid implies cal_valid, and a valid TF lies
in the range a COMPT can leave) is kept by every step from every state that has it. -/
def Obligations.StepKeepsInvariant : Prop :=
  ∀ s t : State, s.Inv → step s = .next t → t.Inv

/-- 10_state sections 4 and 5: the state after reset has the invariant. -/
def Obligations.ResetHasInvariant : Prop :=
  State.reset.Inv

/-- 10_state section 5 and 70_reset_and_hazards section 1: after reset both flags are 0; a reset event, in any state,
clears both flags, takes no response from the block and leaves the host's later events; from there LDCAL succeeds and
COMPT and COMPP raise CalNotLoaded. -/
def Obligations.ResetBeginsASession : Prop :=
  (State.reset.calValid = false ∧ State.reset.tfValid = false) ∧
  (∀ (s : State) (es : List HostEvent), s.inputs = .reset :: es → ∃ t : State, step s = .next t ∧
    t.calValid = false ∧ t.tfValid = false ∧ t.inputs = es ∧ t.responses = s.responses) ∧
  (∀ B : CalBlock, ∃ t : State, exec (.ldcal B) State.reset = .next t ∧ t.calValid = true ∧ t.responses = [.ok .loaded]) ∧
  ∀ raw : Raw,
    exec (.compt raw) State.reset =
      .next { State.reset with responses := [.error (.domainError .calNotLoaded)] } ∧
    exec (.compp raw) State.reset =
      .next { State.reset with responses := [.error (.domainError .calNotLoaded)] }

/-- 10_state R29: what CAL and TF hold after reset cannot be observed. Two machines whose flags are both 0, whatever
CAL and TF hold in each, give the same responses to the same events, for any number of steps, and stay
indistinguishable. Both flags are 0 in the state after reset and after a reset event. -/
def Obligations.ResetValuesCannotBeObserved : Prop :=
  (State.reset.calValid = false ∧ State.reset.tfValid = false) ∧
  (∀ s : State, (applyReset s).calValid = false ∧ (applyReset s).tfValid = false) ∧
  ∀ (n : Nat) (s t : State), s.inputs = t.inputs → s.calValid = false → t.calValid = false →
    s.tfValid = false → t.tfValid = false → ∃ (s' t' : State) (rs : List Response),
      Host.Core.run core n s = .next s' ∧ Host.Core.run core n t = .next t' ∧
      s'.responses = s.responses ++ rs ∧ t'.responses = t.responses ++ rs ∧ s'.sameVisible t'

/-- 10_state sections 2 to 4 and 42_compensation section 2: what a session's requests leave behind. From any state
with both flags 0, when the listed events have all been taken: cal_valid is 1 exactly when a LDCAL was presented since
the last reset, and CAL is the first such block; tf_valid is 1 exactly when a COMPT was presented after it, and TF is
computed from the last such sample alone. -/
def Obligations.SessionHistoryFixesTheState : Prop :=
  ∀ (s : State) (es : List HostEvent), s.calValid = false → s.tfValid = false → ∃ t : State,
    Host.Core.run core es.length { s with inputs := es } = .next t ∧
    (t.calValid = true ↔ (firstLoad (sinceReset [] es)).isSome = true) ∧
    (t.tfValid = true ↔ (lastGoodSample (sinceReset [] es)).isSome = true) ∧
    (∀ B, firstLoad (sinceReset [] es) = some B → t.cal = calOfBlock B) ∧
    ∀ B raw, firstLoad (sinceReset [] es) = some B → lastGoodSample (sinceReset [] es) = some raw →
      t.tf = patternT (tempFine (rawValue raw) (coefValue 0 (calOfBlock B)[0]) (coefValue 1 (calOfBlock B)[1])
        (coefValue 2 (calOfBlock B)[2]))

/-- 10_state R29, the step behind it: two machines that no operation can tell apart and that face the same events, in
any state, reachable or not, take a step with the same responses and stay that way. -/
def Obligations.StepKeepsIndistinguishability : Prop :=
  ∀ s t : State, s.inputs = t.inputs → s.sameVisible t → ∃ (s' t' : State) (rs : List Response),
    step s = .next s' ∧ step t = .next t' ∧ s'.inputs = t'.inputs ∧
    s'.responses = s.responses ++ rs ∧ t'.responses = t.responses ++ rs ∧ s'.sameVisible t'

/-- 20_memory section 4: a step takes the host's oldest event. A request is decoded and executed on the state with
that event taken; nothing else is done around it. -/
def Obligations.StepRunsTheDecodedRequest : Prop :=
  ∀ (s : State) (p : Request) (es : List HostEvent), s.inputs = .request p :: es →
    step s = exec (decode p) { s with inputs := es }

/-- 70_reset_and_hazards sections 1 and 4: with nothing presented the block waits. That waiting is a step that changes
nothing is the model's choice (log entry 5). -/
def Obligations.BlockWaitsWithoutRequest : Prop :=
  ∀ s : State, s.inputs = [] → step s = .next s

/-- 70_reset_and_hazards sections 3 and 4: every run ends, and the block owes the host exactly one response per
request and none for a reset. From any state, taking all the events listed never stops early, uses them all up, and
adds as many responses as there were requests, after those already given. -/
def Obligations.OneResponsePerRequest : Prop :=
  ∀ s : State, ∃ (t : State) (rs : List Response), Host.Core.run core s.inputs.length s = .next t ∧
    t.inputs = [] ∧ t.responses = s.responses ++ rs ∧ rs.length = countRequests s.inputs

/-- 30_encoding section 2: decoding the request that presents a well-formed instruction gives it back, for every
instruction and every value of its operands. -/
def Obligations.DecodeOfEncodeIsIdentity : Prop :=
  ∀ i : Instr, i.wf = true → decode (encode i) = i

/-- 30_encoding sections 2 and 4: decoding is total and gives a well-formed instruction with the select of the
request; presenting it again gives the request back up to the ports its operation does not list. -/
def Obligations.EncodeOfDecodeKeepsUsedPorts : Prop :=
  ∀ p : Request, (decode p).wf = true ∧ (decode p).select = p.op ∧ encode (decode p) = p.onlyUsed

/-- 30_encoding section 2 and 95_test_vectors section 2.1: a few requests written out port by port, and the operations
they select. -/
def Obligations.WrittenRequestsDecode : Prop :=
  decode { Request.zeros 0x0 with length := 0x03, register := 0xFA, value := 0x00 } = .enc 3 0xFA 0 ∧
  decode { Request.zeros 0x1 with cw := 0x12345678 } = .dec 0x12345678 ∧
  decode { Request.zeros 0x2 with dir := 0, cw := 0x00FF8818 } = .cmdRd 0x00FF8818 ∧
  decode { Request.zeros 0x2 with dir := 1, cw := 0xAB27F407 } = .cmdWr 0xAB27F407 ∧
  decode { Request.zeros 0x2 with dir := 0xFFFFFFFF, cw := 0 } = .cmdUnsup 0xFFFFFFFF 0 ∧
  decode { Request.zeros 0x4 with b0 := 0xF4, b1 := 0x27 } = .bswr 0xF4 0x27 ∧
  decode { Request.zeros 0x6 with meas := ⟨0x7E, 0xED, 0x00⟩ } = .mkraw ⟨0x7E, 0xED, 0x00⟩ ∧
  decode { Request.zeros 0x7 with raw := 0x7EED0 } = .compt 0x7EED0 ∧
  decode { Request.zeros 0x8 with raw := 0x655AC } = .compp 0x655AC ∧
  decode (Request.zeros 0xC) = .reservedC

/-- 30_encoding R73: SAMPT is MKRAW and then COMPT of the sample MKRAW just returned, SAMPP likewise with COMPP; the
status and result of the pair are those of the second operation, since MKRAW cannot fail. -/
def Obligations.SamplingPairsExpand : Prop :=
  ∀ (B : MeasBlock) (s : State) (base : Nat), base ≤ s.responses.length →
    runLines base [.sampt B] s =
      runLines base [.request (.mkraw B), .compt (.line (s.responses.length - base + 1))] s ∧
    runLines base [.sampp B] s =
      runLines base [.request (.mkraw B), .compp (.line (s.responses.length - base + 1))] s ∧
    (∃ (t : State) (r : Response), runLines base [.sampt B] s = some (.next t) ∧
      t.responses = s.responses ++ [.ok (.raw (raw20 B)), r] ∧
      ∃ u : State, exec (.compt (raw20 B)) s = .next u ∧ u.responses = s.responses ++ [r] ∧ t.sameBlock u) ∧
    ∃ (t : State) (r : Response), runLines base [.sampp B] s = some (.next t) ∧
      t.responses = s.responses ++ [.ok (.raw (raw20 B)), r] ∧
      ∃ u : State, exec (.compp (raw20 B)) s = .next u ∧ u.responses = s.responses ++ [r] ∧ t.sameBlock u
end

