-- ==== Sys2Proof/Laws/Arith.lean ====
section
/-! SUPPORT. The arithmetic primitives: what a wrap leaves alone, the range it lands in, the range of a shift, and the
ranges of operands. -/

namespace Sys2Proof.Machine

/-- A wrap is the balanced remainder modulo 2^N (00_scope R6). -/
theorem wrapS_eq_bmod (N : Nat) (z : Int) : wrapS N z = Int.bmod z (2 ^ N) := by
  rw [wrapS, BitVec.toInt_ofInt]

/-- A wrap at 32 bits is the balanced remainder. -/
theorem wT_eq_bmod (z : Int) : wT z = Int.bmod z (2 ^ 32) := wrapS_eq_bmod 32 z

/-- A wrap at 64 bits is the balanced remainder. -/
theorem wP_eq_bmod (z : Int) : wP z = Int.bmod z (2 ^ 64) := wrapS_eq_bmod 64 z

/-- A wrap at 32 bits, in literals. -/
theorem wT_eq (z : Int) : wT z = (z + 2147483648) % 4294967296 - 2147483648 := by
  rw [wT_eq_bmod, Int.bmod_def]
  norm_num
  split <;> omega

/-- A wrap at 64 bits, in literals. -/
theorem wP_eq (z : Int) :
    wP z = (z + 9223372036854775808) % 18446744073709551616 - 9223372036854775808 := by
  rw [wP_eq_bmod, Int.bmod_def]
  norm_num
  split <;> omega

/-- A wrap at 32 bits lands in the signed range (00_scope R6). -/
theorem wT_range (z : Int) : -2 ^ 31 ≤ wT z ∧ wT z ≤ 2 ^ 31 - 1 := by
  rw [wT_eq]
  omega

/-- A wrap at 64 bits lands in the signed range (00_scope R6). -/
theorem wP_range (z : Int) : -2 ^ 63 ≤ wP z ∧ wP z ≤ 2 ^ 63 - 1 := by
  rw [wP_eq]
  omega

/-- A value of type s32 is not changed by the wrap. -/
theorem wT_of_fits {z : Int} (h1 : -2 ^ 31 ≤ z) (h2 : z ≤ 2 ^ 31 - 1) : wT z = z := by
  rw [wT_eq]
  omega

/-- A value of type s64 is not changed by the wrap. -/
theorem wP_of_fits {z : Int} (h1 : -2 ^ 63 ≤ z) (h2 : z ≤ 2 ^ 63 - 1) : wP z = z := by
  rw [wP_eq]
  omega

/-- Wrapping twice is wrapping once. -/
@[simp] theorem wT_wT (z : Int) : wT (wT z) = wT z :=
  wT_of_fits (wT_range z).1 (wT_range z).2

/-- Wrapping twice is wrapping once. -/
@[simp] theorem wP_wP (z : Int) : wP (wP z) = wP z :=
  wP_of_fits (wP_range z).1 (wP_range z).2

/-- A signed 32-bit pattern read back is the wrapped value. -/
theorem patternT_toInt (z : Int) : (patternT z).toInt = wT z := by
  rw [patternT, wT_eq_bmod, BitVec.toInt_ofInt]

/-- A signed 64-bit pattern read back is the wrapped value. -/
theorem patternP_toInt (z : Int) : (patternP z).toInt = wP z := by
  rw [patternP, wP_eq_bmod, BitVec.toInt_ofInt]

/-- The range of a raw sample in a datapath (R102). -/
theorem rawValue_range (raw : Raw) : 0 ≤ rawValue raw ∧ rawValue raw ≤ 1048575 := by
  have := raw.isLt
  unfold rawValue
  omega

end Sys2Proof.Machine
end

