-- ==== Sys2Proof/Laws/Operands.lean ====
section
/-! SUPPORT. What the assembled operands are as numbers: command fields, coefficient pairs, raw samples, coefficient
values. -/

namespace Sys2Proof.Machine

/-- The length field is the lowest byte (30_encoding R61). -/
theorem cwLength_toNat (cw : Word) : (cwLength cw).toNat = cw.toNat % 2 ^ 8 := by
  simp [cwLength]

/-- The register field is the second byte (30_encoding R61). -/
theorem cwRegister_toNat (cw : Word) : (cwRegister cw).toNat = cw.toNat / 2 ^ 8 % 2 ^ 8 := by
  simp [cwRegister, Nat.shiftRight_eq_div_pow]

/-- The value field is the third byte (30_encoding R61). -/
theorem cwValue_toNat (cw : Word) : (cwValue cw).toNat = cw.toNat / 2 ^ 16 % 2 ^ 8 := by
  simp [cwValue, Nat.shiftRight_eq_div_pow]

/-- `pair16` is low byte plus 256 times high byte (R100). -/
theorem pair16_toNat (lo hi : Byte) : (pair16 lo hi).toNat = lo.toNat + hi.toNat * 2 ^ 8 := by
  have hl := lo.isLt
  have hh := hi.isLt
  simp only [pair16, BitVec.toNat_or, BitVec.toNat_shiftLeft, BitVec.toNat_setWidth]
  rw [Nat.mod_eq_of_lt (a := hi.toNat) (by omega), Nat.mod_eq_of_lt (a := lo.toNat) (by omega),
    Nat.mod_eq_of_lt (by rw [Nat.shiftLeft_eq]; omega), ← Nat.shiftLeft_add_eq_or_of_lt hl, Nat.shiftLeft_eq]
  omega

/-- The three fields of a command word do not overlap (R61, R69). -/
theorem packCommand_toNat (l r v : Byte) :
    (packCommand l r v).toNat = l.toNat + r.toNat * 2 ^ 8 + v.toNat * 2 ^ 16 := by
  have hl := l.isLt
  have hr := r.isLt
  have hv := v.isLt
  simp only [packCommand, BitVec.toNat_or, BitVec.toNat_shiftLeft, BitVec.toNat_setWidth]
  rw [Nat.mod_eq_of_lt (a := l.toNat) (by omega), Nat.mod_eq_of_lt (a := r.toNat) (by omega),
    Nat.mod_eq_of_lt (a := v.toNat) (by omega), Nat.mod_eq_of_lt (a := r.toNat <<< 8) (by rw [Nat.shiftLeft_eq]; omega),
    Nat.mod_eq_of_lt (a := v.toNat <<< 16) (by rw [Nat.shiftLeft_eq]; omega),
    Nat.or_comm l.toNat, ← Nat.shiftLeft_add_eq_or_of_lt hl, Nat.or_comm,
    ← Nat.shiftLeft_add_eq_or_of_lt (by rw [Nat.shiftLeft_eq]; omega), Nat.shiftLeft_eq, Nat.shiftLeft_eq]
  omega

/-- The three parts of a raw sample do not overlap (R102). -/
theorem raw20_toNat (B : MeasBlock) :
    (raw20 B).toNat = B.msb.toNat * 2 ^ 12 + B.lsb.toNat * 2 ^ 4 + B.xlsb.toNat / 2 ^ 4 := by
  have h0 := B.msb.isLt
  have h1 := B.lsb.isLt
  have h2 := B.xlsb.isLt
  simp only [raw20, BitVec.toNat_or, BitVec.toNat_shiftLeft, BitVec.toNat_setWidth, BitVec.toNat_ushiftRight]
  rw [Nat.mod_eq_of_lt (a := B.msb.toNat) (by omega), Nat.mod_eq_of_lt (a := B.lsb.toNat) (by omega),
    Nat.mod_eq_of_lt (a := B.msb.toNat <<< 12) (by rw [Nat.shiftLeft_eq]; omega),
    Nat.mod_eq_of_lt (a := B.lsb.toNat <<< 4) (by rw [Nat.shiftLeft_eq]; omega),
    Nat.shiftRight_eq_div_pow, Nat.mod_eq_of_lt (a := B.xlsb.toNat / 2 ^ 4) (by omega), Nat.or_assoc,
    ← Nat.shiftLeft_add_eq_or_of_lt (b := B.xlsb.toNat / 2 ^ 4) (by omega),
    ← Nat.shiftLeft_add_eq_or_of_lt (by rw [Nat.shiftLeft_eq]; omega), Nat.shiftLeft_eq, Nat.shiftLeft_eq]
  omega

/-- `s16` of a pattern is its two's-complement value (R10). -/
theorem s16_toInt (u : Coef) : s16 u.toNat = u.toInt := by
  rw [s16, wrapS_eq_bmod, BitVec.toInt_eq_toNat_bmod]

/-- Every coefficient lies in the union of the two 16-bit ranges (R22). -/
theorem coefValue_range (i : Fin 12) (u : Coef) : -32768 ≤ coefValue i u ∧ coefValue i u ≤ 65535 := by
  have := u.isLt
  have h1 := u.le_toInt
  have h2 := u.toInt_lt
  unfold coefValue; split
  · omega
  · rw [s16_toInt]; norm_num at *; omega

end Sys2Proof.Machine
end

