-- ==== Sys2Proof/Laws/State.lean ====
section
/-! SUPPORT. One lemma per field for each update of the state, so that no proof unfolds a record update. -/

namespace Sys2Proof.Machine

@[simp] theorem State.answer_cal (s : State) (r : Response) : (s.answer r).cal = s.cal := rfl
@[simp] theorem State.answer_tf (s : State) (r : Response) : (s.answer r).tf = s.tf := rfl
@[simp] theorem State.answer_calValid (s : State) (r : Response) : (s.answer r).calValid = s.calValid := rfl
@[simp] theorem State.answer_tfValid (s : State) (r : Response) : (s.answer r).tfValid = s.tfValid := rfl
@[simp] theorem State.answer_inputs (s : State) (r : Response) : (s.answer r).inputs = s.inputs := rfl
@[simp] theorem State.answer_responses (s : State) (r : Response) :
    (s.answer r).responses = s.responses ++ [r] := rfl
@[simp] theorem State.answer_session (s : State) (r : Response) : (s.answer r).session = s.session := rfl

@[simp] theorem State.writeCal_cal (s : State) (v : Vector Coef 12) : (s.writeCal v).cal = v := rfl
@[simp] theorem State.writeCal_tf (s : State) (v : Vector Coef 12) : (s.writeCal v).tf = s.tf := rfl
@[simp] theorem State.writeCal_calValid (s : State) (v : Vector Coef 12) :
    (s.writeCal v).calValid = s.calValid := rfl
@[simp] theorem State.writeCal_tfValid (s : State) (v : Vector Coef 12) : (s.writeCal v).tfValid = s.tfValid := rfl
@[simp] theorem State.writeCal_inputs (s : State) (v : Vector Coef 12) : (s.writeCal v).inputs = s.inputs := rfl
@[simp] theorem State.writeCal_responses (s : State) (v : Vector Coef 12) :
    (s.writeCal v).responses = s.responses := rfl
@[simp] theorem State.writeCal_session (s : State) (v : Vector Coef 12) : (s.writeCal v).session = s.session := rfl

@[simp] theorem State.writeTF_cal (s : State) (v : Int) : (s.writeTF v).cal = s.cal := rfl
@[simp] theorem State.writeTF_tf (s : State) (v : Int) : (s.writeTF v).tf = patternT v := rfl
@[simp] theorem State.writeTF_calValid (s : State) (v : Int) : (s.writeTF v).calValid = s.calValid := rfl
@[simp] theorem State.writeTF_tfValid (s : State) (v : Int) : (s.writeTF v).tfValid = s.tfValid := rfl
@[simp] theorem State.writeTF_inputs (s : State) (v : Int) : (s.writeTF v).inputs = s.inputs := rfl
@[simp] theorem State.writeTF_responses (s : State) (v : Int) : (s.writeTF v).responses = s.responses := rfl
@[simp] theorem State.writeTF_session (s : State) (v : Int) : (s.writeTF v).session = s.session := rfl

@[simp] theorem State.setCalValid_cal (s : State) : s.setCalValid.cal = s.cal := rfl
@[simp] theorem State.setCalValid_tf (s : State) : s.setCalValid.tf = s.tf := rfl
@[simp] theorem State.setCalValid_calValid (s : State) : s.setCalValid.calValid = true := rfl
@[simp] theorem State.setCalValid_tfValid (s : State) : s.setCalValid.tfValid = s.tfValid := rfl
@[simp] theorem State.setCalValid_inputs (s : State) : s.setCalValid.inputs = s.inputs := rfl
@[simp] theorem State.setCalValid_responses (s : State) : s.setCalValid.responses = s.responses := rfl
@[simp] theorem State.setCalValid_session (s : State) : s.setCalValid.session = s.session := rfl

@[simp] theorem State.setTfValid_cal (s : State) : s.setTfValid.cal = s.cal := rfl
@[simp] theorem State.setTfValid_tf (s : State) : s.setTfValid.tf = s.tf := rfl
@[simp] theorem State.setTfValid_calValid (s : State) : s.setTfValid.calValid = s.calValid := rfl
@[simp] theorem State.setTfValid_tfValid (s : State) : s.setTfValid.tfValid = true := rfl
@[simp] theorem State.setTfValid_inputs (s : State) : s.setTfValid.inputs = s.inputs := rfl
@[simp] theorem State.setTfValid_responses (s : State) : s.setTfValid.responses = s.responses := rfl
@[simp] theorem State.setTfValid_session (s : State) : s.setTfValid.session = s.session := rfl

@[simp] theorem applyReset_cal (s : State) : (applyReset s).cal = calAtReset (s.session + 1) := rfl
@[simp] theorem applyReset_tf (s : State) : (applyReset s).tf = Config.tfAtReset (s.session + 1) := rfl
@[simp] theorem applyReset_calValid (s : State) : (applyReset s).calValid = false := rfl
@[simp] theorem applyReset_tfValid (s : State) : (applyReset s).tfValid = false := rfl
@[simp] theorem applyReset_inputs (s : State) : (applyReset s).inputs = s.inputs := rfl
@[simp] theorem applyReset_responses (s : State) : (applyReset s).responses = s.responses := rfl
@[simp] theorem applyReset_session (s : State) : (applyReset s).session = s.session + 1 := rfl

@[simp] theorem State.present_inputs (s : State) (e : HostEvent) : (s.present e).inputs = e :: s.inputs := rfl

end Sys2Proof.Machine
end

