-- ==== Sys2Proof/Laws/Ops.lean ====
section
/-! SUPPORT. What each shared operation can do, said once: the guards, reading the coefficients and `TF`, fetching. -/

namespace Sys2Proof.Machine

/-- A guard passes in a loaded state. -/
@[simp] theorem requireCal_of_valid {s : State} (h : s.calValid = true) (k : Answer) : requireCal s k = k := by
  simp [requireCal, h]

/-- A guard raises in an unloaded state. -/
@[simp] theorem requireCal_of_invalid {s : State} (h : s.calValid = false) (k : Answer) :
    requireCal s k = raise s (.domainError .calNotLoaded) := by
  simp [requireCal, h]

/-- The second guard of COMPP passes when `TF` is set. -/
@[simp] theorem requireTF_of_valid {s : State} (h : s.tfValid = true) (k : Answer) : requireTF s k = k := by
  simp [requireTF, h]

/-- The second guard of COMPP raises when `TF` is not set. -/
@[simp] theorem requireTF_of_invalid {s : State} (h : s.tfValid = false) (k : Answer) :
    requireTF s k = raise s (.domainError .tFineUnset) := by
  simp [requireTF, h]

/-- The guard of LDCAL passes in an unloaded state. -/
@[simp] theorem requireUnloaded_of_invalid {s : State} (h : s.calValid = false) (k : Answer) :
    requireUnloaded s k = k := by
  simp [requireUnloaded, h]

/-- The guard of LDCAL raises in a loaded state. -/
@[simp] theorem requireUnloaded_of_valid {s : State} (h : s.calValid = true) (k : Answer) :
    requireUnloaded s k = raise s (.domainError .calAlreadyLoaded) := by
  simp [requireUnloaded, h]

/-- Coefficients depend on `CAL` alone. -/
theorem State.coef_congr {s t : State} (h : s.cal = t.cal) (i : Fin 12) : s.coef i = t.coef i := by
  simp [State.coef, h]

@[simp] theorem State.answer_coef (s : State) (r : Response) (i : Fin 12) : (s.answer r).coef i = s.coef i := rfl
@[simp] theorem State.writeTF_coef (s : State) (v : Int) (i : Fin 12) : (s.writeTF v).coef i = s.coef i := rfl
@[simp] theorem State.setTfValid_coef (s : State) (i : Fin 12) : s.setTfValid.coef i = s.coef i := rfl
@[simp] theorem State.answer_tfValue (s : State) (r : Response) : (s.answer r).tfValue = s.tfValue := rfl
@[simp] theorem State.answer_divisor (s : State) (r : Response) : (s.answer r).divisor = s.divisor := rfl

/-- Coefficient i that LDCAL loads comes from the byte pair at 2i (20_memory R43). -/
theorem calOfBlock_get (B : CalBlock) (i : Fin 12) :
    (calOfBlock B)[i] = pair16 B.bytes[2 * i.val] B.bytes[2 * i.val + 1] := by
  simp [calOfBlock]

/-- Every request, decoded or not, is fetched from the front of the host's list. -/
theorem fetch_cons {s : State} {e : HostEvent} {es : List HostEvent} (h : s.inputs = e :: es) :
    fetch s = some (e, { s with inputs := es }) := by
  simp [fetch, h]

/-- With an empty list nothing is fetched. -/
theorem fetch_nil {s : State} (h : s.inputs = []) : fetch s = none := by
  simp [fetch, h]

/-- What CMD answers, whichever its direction. -/
theorem classify_eq (dir cw : Word) (s : State) : ∃ r : Response, classify dir cw s = .next (s.answer r) := by
  unfold classify
  split
  · exact ⟨_, rfl⟩
  · split
    · exact ⟨_, rfl⟩
    · exact ⟨_, rfl⟩

/-- The state a successful COMPT leaves: a new `TF`, `tf_valid`, one response. Proofs generalize the two patterns. -/
def State.afterCompt (s : State) (tf t : Word) : State :=
  { s with responses := s.responses ++ [.ok (.temperature t)], tfValid := true, tf := tf }

@[simp] theorem State.afterCompt_cal (s : State) (tf t : Word) : (s.afterCompt tf t).cal = s.cal := rfl
@[simp] theorem State.afterCompt_tf (s : State) (tf t : Word) : (s.afterCompt tf t).tf = tf := rfl
@[simp] theorem State.afterCompt_calValid (s : State) (tf t : Word) : (s.afterCompt tf t).calValid = s.calValid := rfl
@[simp] theorem State.afterCompt_tfValid (s : State) (tf t : Word) : (s.afterCompt tf t).tfValid = true := rfl
@[simp] theorem State.afterCompt_inputs (s : State) (tf t : Word) : (s.afterCompt tf t).inputs = s.inputs := rfl
@[simp] theorem State.afterCompt_session (s : State) (tf t : Word) : (s.afterCompt tf t).session = s.session := rfl
@[simp] theorem State.afterCompt_responses (s : State) (tf t : Word) :
    (s.afterCompt tf t).responses = s.responses ++ [.ok (.temperature t)] := rfl
@[simp] theorem State.afterCompt_coef (s : State) (tf t : Word) (i : Fin 12) :
    (s.afterCompt tf t).coef i = s.coef i := rfl

/-- COMPT in a loaded state. -/
theorem exec_compt_loaded (raw : Raw) {s : State} (h : s.calValid = true) :
    exec (.compt raw) s =
      .next (s.afterCompt (patternT (s.fineOf raw)) (patternT (tempResult (s.fineOf raw)))) := by
  simp only [exec, execCompt, requireCal_of_valid h, respond, State.answer, State.setTfValid, State.writeTF,
    State.afterCompt]

/-- COMPT in an unloaded state. -/
theorem exec_compt_unloaded (raw : Raw) {s : State} (h : s.calValid = false) :
    exec (.compt raw) s = .next (s.answer (.error (.domainError .calNotLoaded))) := by
  simp only [exec, execCompt, requireCal_of_invalid h, raise]

/-- The state a successful LDCAL leaves. -/
def State.afterLdcal (s : State) (B : CalBlock) : State :=
  { s with responses := s.responses ++ [.ok .loaded], calValid := true, cal := calOfBlock B }

@[simp] theorem State.afterLdcal_cal (s : State) (B : CalBlock) : (s.afterLdcal B).cal = calOfBlock B := rfl
@[simp] theorem State.afterLdcal_tf (s : State) (B : CalBlock) : (s.afterLdcal B).tf = s.tf := rfl
@[simp] theorem State.afterLdcal_calValid (s : State) (B : CalBlock) : (s.afterLdcal B).calValid = true := rfl
@[simp] theorem State.afterLdcal_tfValid (s : State) (B : CalBlock) : (s.afterLdcal B).tfValid = s.tfValid := rfl
@[simp] theorem State.afterLdcal_inputs (s : State) (B : CalBlock) : (s.afterLdcal B).inputs = s.inputs := rfl
@[simp] theorem State.afterLdcal_session (s : State) (B : CalBlock) : (s.afterLdcal B).session = s.session := rfl
@[simp] theorem State.afterLdcal_responses (s : State) (B : CalBlock) :
    (s.afterLdcal B).responses = s.responses ++ [.ok .loaded] := rfl

/-- LDCAL in an unloaded state. -/
theorem exec_ldcal_unloaded (B : CalBlock) {s : State} (h : s.calValid = false) :
    exec (.ldcal B) s = .next (s.afterLdcal B) := by
  simp only [exec, execLdcal, requireUnloaded_of_invalid h, respond, State.answer, State.setCalValid, State.writeCal,
    State.afterLdcal]

/-- LDCAL in a loaded state. -/
theorem exec_ldcal_loaded (B : CalBlock) {s : State} (h : s.calValid = true) :
    exec (.ldcal B) s = .next (s.answer (.error (.domainError .calAlreadyLoaded))) := by
  simp only [exec, execLdcal, requireUnloaded_of_valid h, raise]

/-- The one response of COMPP, which is all it does. -/
def comppResponse (raw : Raw) (s : State) : Response :=
  if s.calValid = false then .error (.domainError .calNotLoaded)
  else if s.tfValid = false then .error (.domainError .tFineUnset)
  else if s.divisor = 0 then .error (.domainError .zeroDivisor)
  else .ok (.pressure (patternP (s.pressureOf raw)))

/-- What COMPP answers. -/
theorem execCompp_eq (raw : Raw) (s : State) : execCompp raw s = .next (s.answer (comppResponse raw s)) := by
  unfold execCompp comppResponse
  cases hc : s.calValid
  · simp [hc, raise]
  · cases ht : s.tfValid
    · simp [hc, ht, raise]
    · by_cases hd : s.divisor = 0
      · simp [hc, ht, hd, raise]
      · simp [hc, ht, hd, respond]

/-- COMPP, in every state. -/
theorem exec_compp (raw : Raw) (s : State) : exec (.compp raw) s = .next (s.answer (comppResponse raw s)) :=
  execCompp_eq raw s

/-- Inversion of `exec`: an operation only answers, or it is a first LDCAL, or it is a COMPT in a loaded state. -/
theorem exec_cases {i : Instr} {s t : State} (h : exec i s = .next t) :
    (∃ r, t = s.answer r) ∨ (∃ B, i = .ldcal B ∧ s.calValid = false ∧ t = s.afterLdcal B) ∨
      ∃ raw x y, i = .compt raw ∧ s.calValid = true ∧ t = s.afterCompt x y ∧ x = patternT (s.fineOf raw) := by
  cases i
  case cmdUnsup dir cw =>
    obtain ⟨r, hr⟩ := classify_eq dir cw s
    have : exec (.cmdUnsup dir cw) s = .next (s.answer r) := hr
    rw [this] at h
    cases h
    exact .inl ⟨_, rfl⟩
  case ldcal B =>
    cases hc : s.calValid
    · rw [exec_ldcal_unloaded B hc] at h
      cases h
      exact .inr (.inl ⟨B, rfl, rfl, rfl⟩)
    · rw [exec_ldcal_loaded B hc] at h
      cases h
      exact .inl ⟨_, rfl⟩
  case compt raw =>
    cases hc : s.calValid
    · rw [exec_compt_unloaded raw hc] at h
      cases h
      exact .inl ⟨_, rfl⟩
    · rw [exec_compt_loaded raw hc] at h
      generalize hx : patternT (s.fineOf raw) = x at h
      generalize patternT (tempResult (s.fineOf raw)) = y at h
      cases h
      exact .inr (.inr ⟨raw, x, y, rfl, rfl, rfl, hx.symm⟩)
  case compp raw =>
    rw [exec_compp] at h
    generalize comppResponse raw s = r at h
    cases h
    exact .inl ⟨r, rfl⟩
  all_goals
    cases h
    exact .inl ⟨_, rfl⟩

/-- Every operation answers a next state: nothing stops the block (30_encoding R70). -/
theorem exec_answers (i : Instr) (s : State) : ∃ t, exec i s = .next t := by
  cases i
  case cmdUnsup dir cw =>
    obtain ⟨r, hr⟩ := classify_eq dir cw s
    exact ⟨_, hr⟩
  case ldcal B =>
    cases hc : s.calValid
    · exact ⟨_, exec_ldcal_unloaded B hc⟩
    · exact ⟨_, exec_ldcal_loaded B hc⟩
  case compt raw =>
    cases hc : s.calValid
    · exact ⟨_, exec_compt_unloaded raw hc⟩
    · exact ⟨_, exec_compt_loaded raw hc⟩
  case compp raw => exact ⟨_, exec_compp raw s⟩
  all_goals exact ⟨_, rfl⟩

/-- Inversion of `step`: the block waits, a reset event is applied, or a decoded request is executed. -/
theorem step_cases {s t : State} (h : step s = .next t) :
    (s.inputs = [] ∧ t = s) ∨ (∃ es, s.inputs = .reset :: es ∧ t = applyReset { s with inputs := es }) ∨
      ∃ p es, s.inputs = .request p :: es ∧ exec (decode p) { s with inputs := es } = .next t := by
  unfold step at h
  cases hi : s.inputs with
  | nil =>
    rw [fetch_nil hi] at h
    cases h
    exact .inl ⟨rfl, rfl⟩
  | cons e es =>
    rw [fetch_cons hi] at h
    cases e with
    | reset =>
      cases h
      exact .inr (.inl ⟨es, rfl, rfl⟩)
    | request p => exact .inr (.inr ⟨p, es, rfl, h⟩)

end Sys2Proof.Machine
end

