-- ==== Sys2Proof/Laws/PerInstr.lean ====
section
/-! SUPPORT. A statement per instruction: the request that presents it carries the select code of 30_encoding R66. -/

namespace Sys2Proof.Laws.Select

/-- The encoding of an instruction has its select in the `op` port. -/
def Statement (i : Instr) : Prop := (encode i).op = i.select

theorem enc (length register value : Byte) : Statement (.enc length register value) := rfl
theorem dec (cw : Word) : Statement (.dec cw) := rfl
theorem cmdRd (cw : Word) : Statement (.cmdRd cw) := rfl
theorem cmdWr (cw : Word) : Statement (.cmdWr cw) := rfl
theorem cmdUnsup (dir cw : Word) : Statement (.cmdUnsup dir cw) := rfl
theorem bsrd (b0 : Byte) : Statement (.bsrd b0) := rfl
theorem bswr (b0 b1 : Byte) : Statement (.bswr b0 b1) := rfl
theorem ldcal (B : CalBlock) : Statement (.ldcal B) := rfl
theorem mkraw (B : MeasBlock) : Statement (.mkraw B) := rfl
theorem compt (raw : Raw) : Statement (.compt raw) := rfl
theorem compp (raw : Raw) : Statement (.compp raw) := rfl
theorem reserved9 : Statement .reserved9 := rfl
theorem reservedA : Statement .reservedA := rfl
theorem reservedB : Statement .reservedB := rfl
theorem reservedC : Statement .reservedC := rfl
theorem reservedD : Statement .reservedD := rfl
theorem reservedE : Statement .reservedE := rfl
theorem reservedF : Statement .reservedF := rfl

end Sys2Proof.Laws.Select
end

