-- ==== Sys2Proof/Tests/Slice0.lean ====
section
/-! SUPPORT. Tests of one operation each, on small states. Expected values are those of 95_test_vectors, named by their
row there. Then one witness per statement that has hypotheses: a state and operands that meet all of them. -/

namespace Sys2Proof.Machine.Tests

open Sys2Proof Sys2Proof.Machine

/-! ### Helpers -/

/-- The last response of a run. -/
def answered (a : Answer) : Option Response :=
  match a with
  | .next s => s.responses.getLast?
  | .fault _ => none
  | .refused _ => none

/-- The signed value of `TF` after a run. -/
def fineAfter (a : Answer) : Option Int :=
  match a with
  | .next s => some s.tfValue
  | .fault _ => none
  | .refused _ => none

/-- The twelve coefficients after a run, as integers. -/
def coefsAfter (a : Answer) : List Int :=
  match a with
  | .next s => (List.finRange 12).map s.coef
  | .fault _ => []
  | .refused _ => []

/-- Calibration registers holding the given integers. -/
def calOf (t1 t2 t3 p1 p2 p3 p4 p5 p6 p7 p8 p9 : Int) : Vector Coef 12 :=
  #v[BitVec.ofInt 16 t1, BitVec.ofInt 16 t2, BitVec.ofInt 16 t3, BitVec.ofInt 16 p1, BitVec.ofInt 16 p2,
    BitVec.ofInt 16 p3, BitVec.ofInt 16 p4, BitVec.ofInt 16 p5, BitVec.ofInt 16 p6, BitVec.ofInt 16 p7,
    BitVec.ofInt 16 p8, BitVec.ofInt 16 p9]

/-- The reference coefficients of 95_test_vectors section 2.2. -/
def refCal : Vector Coef 12 := calOf 27504 26435 (-1000) 36477 (-10685) 3024 2855 140 (-7) 15500 (-14600) 6000

/-- The 24 bytes `CALREF`. -/
def calRef : CalBlock :=
  ⟨#v[0x70, 0x6B, 0x43, 0x67, 0x18, 0xFC, 0x7D, 0x8E, 0x43, 0xD6, 0xD0, 0x0B,
    0x27, 0x0B, 0x8C, 0x00, 0xF9, 0xFF, 0x8C, 0x3C, 0xF8, 0xC6, 0x70, 0x17]⟩

/-- A state with the given registers and flags, no event listed and no response given. -/
def stateOf (calValid tfValid : Bool) (cal : Vector Coef 12) (tf : Int) : State where
  responses := []
  inputs := []
  session := 0
  calValid := calValid
  tfValid := tfValid
  cal := cal
  tf := patternT tf

/-- Flags (0,0): before calibration is loaded. -/
def empty : State := stateOf false false (calOf 0 0 0 0 0 0 0 0 0 0 0 0) 0

/-- Flags (1,0): the reference coefficients. -/
def loaded : State := stateOf true false refCal 0

/-- Flags (1,1): the reference coefficients and the `TF` of E1. -/
def ready : State := stateOf true true refCal 128422

/-- Flags (1,1) with P1 to P9 and `TF` as the rows of section 2.4 give them. -/
def pressureState (tf p1 p2 p3 p4 p5 p6 p7 p8 p9 : Int) : State :=
  stateOf true true (calOf 27504 26435 (-1000) p1 p2 p3 p4 p5 p6 p7 p8 p9) tf

/-- Flags (1,0) with T1, T2, T3 as the rows of section 2.3 give them. -/
def temperatureState (t1 t2 t3 : Int) : State := stateOf true false (calOf t1 t2 t3 0 0 0 0 0 0 0 0 0) 0

/-! ### Well-formedness and decoding -/

/-- An unsupported command with direction 0 or 1 is no instruction; with 2 or more it is. -/
theorem test_wf_unsupported_direction :
    (Instr.cmdUnsup 0 0).wf = false ∧ (Instr.cmdUnsup 1 0).wf = false ∧ (Instr.cmdUnsup 2 0).wf = true ∧
      (Instr.cmdUnsup 0xFFFFFFFF 0).wf = true := by decide

/-- `op=0x0 length=0x01 register=0xF4 value=0x27` (section 2.1). -/
theorem test_decode_enc :
    decode { Request.zeros 0x0 with length := 0x01, register := 0xF4, value := 0x27 } = .enc 1 0xF4 0x27 := by decide

/-- `op=0x1 cw=0x0000FA03`. -/
theorem test_decode_dec : decode { Request.zeros 0x1 with cw := 0x0000FA03 } = .dec 0x0000FA03 := by decide

/-- `op=0x2 dir=0 cw=0x0000FA03`. -/
theorem test_decode_cmd_rd :
    decode { Request.zeros 0x2 with dir := 0, cw := 0x0000FA03 } = .cmdRd 0x0000FA03 := by decide

/-- `op=0x2 dir=1 cw=0x0027F401`. -/
theorem test_decode_cmd_wr :
    decode { Request.zeros 0x2 with dir := 1, cw := 0x0027F401 } = .cmdWr 0x0027F401 := by decide

/-- `op=0x2 dir=2 cw=0x0027F401`, and a direction whose low bits alone would be 0. -/
theorem test_decode_cmd_unsup :
    decode { Request.zeros 0x2 with dir := 2, cw := 0x0027F401 } = .cmdUnsup 2 0x0027F401 ∧
      decode { Request.zeros 0x2 with dir := 0x80000000, cw := 0 } = .cmdUnsup 0x80000000 0 := by decide

/-- `op=0x3 b0=0xD0`. -/
theorem test_decode_bsrd : decode { Request.zeros 0x3 with b0 := 0xD0 } = .bsrd 0xD0 := by decide

/-- `op=0x4 b0=0xF4 b1=0x27`. -/
theorem test_decode_bswr : decode { Request.zeros 0x4 with b0 := 0xF4, b1 := 0x27 } = .bswr 0xF4 0x27 := by decide

/-- `op=0x5 B=CALREF`. -/
theorem test_decode_ldcal : decode { Request.zeros 0x5 with calblk := calRef } = .ldcal calRef := by decide

/-- `op=0x6 B=7E ED 00`. -/
theorem test_decode_mkraw :
    decode { Request.zeros 0x6 with meas := ⟨0x7E, 0xED, 0x00⟩ } = .mkraw ⟨0x7E, 0xED, 0x00⟩ := by decide

/-- `op=0x7 raw=0x7EED0`. -/
theorem test_decode_compt : decode { Request.zeros 0x7 with raw := 0x7EED0 } = .compt 0x7EED0 := by decide

/-- `op=0x8 raw=0x655AC`. -/
theorem test_decode_compp : decode { Request.zeros 0x8 with raw := 0x655AC } = .compp 0x655AC := by decide

/-- `op=0x9` to `op=0xF`, any operands: the operand ports are ignored (30_encoding R70). -/
theorem test_decode_reserved :
    decode { Request.zeros 0x9 with raw := 0x7EED0 } = .reserved9 ∧
      decode { Request.zeros 0xA with cw := 0x0000FA03 } = .reservedA ∧
      decode { Request.zeros 0xB with b0 := 0xD0 } = .reservedB ∧
      decode { Request.zeros 0xC with dir := 1 } = .reservedC ∧
      decode { Request.zeros 0xD with length := 3 } = .reservedD ∧
      decode { Request.zeros 0xE with value := 0x27 } = .reservedE ∧
      decode { Request.zeros 0xF with b1 := 0x27 } = .reservedF := by decide

/-! ### The operations -/

/-- ENC rows 2 and 4 of section 2.1. -/
theorem test_enc :
    answered (exec (.enc 255 255 255) empty) = some (.ok (.word 0x00FFFFFF)) ∧
      answered (exec (.enc 1 0xF4 0x27) empty) = some (.ok (.word 0x0027F401)) := by decide

/-- DEC rows of section 2.1. -/
theorem test_dec :
    answered (exec (.dec 0x12345678) empty) = some (.ok (.fields 0x78 0x56 0x34)) ∧
      answered (exec (.dec 0x80000000) empty) = some (.ok (.fields 0 0 0)) := by decide

/-- CMD rows of section 2.1 with direction 0. -/
theorem test_cmd_rd :
    answered (exec (.cmdRd 0x00FF8818) empty) = some (.ok (.request (.read 0x88 24))) ∧
      answered (exec (.cmdRd 0x0000FA00) empty) = some (.ok (.request (.read 0xFA 0))) := by decide

/-- CMD row of section 2.1 with direction 1: length 7 and bits [31:24] ignored. -/
theorem test_cmd_wr :
    answered (exec (.cmdWr 0xAB27F407) empty) = some (.ok (.request (.write 0xF4 0x27))) := by decide

/-- CMD rows of section 2.1 with another direction. -/
theorem test_cmd_unsup :
    answered (exec (.cmdUnsup 2 0x0027F401) empty) = some (.error (.unsupportedCommand .badDirection)) ∧
      answered (exec (.cmdUnsup 0xFFFFFFFF 0) ready) = some (.error (.unsupportedCommand .badDirection)) := by decide

/-- BSRD row of section 2.1. -/
theorem test_bsrd : answered (exec (.bsrd 0xD0) empty) = some (.ok (.request (.read 0xD0 1))) := by decide

/-- BSWR row of section 2.1. -/
theorem test_bswr : answered (exec (.bswr 0xF4 0x27) empty) = some (.ok (.request (.write 0xF4 0x27))) := by decide

/-- The four ports of a request value, in the order kind, addr, n, v. -/
def requestPorts (r : Response) : Nat × Byte × Byte × Byte := (r.ports.kind, r.ports.addr, r.ports.n, r.ports.v)

/-- The port numbers of the rows `CMD 0` and `CMD 1` of section 2.1: kind, addr, n, v. -/
theorem test_ports :
    requestPorts (.ok (.request (.read 0xFA 3))) = (1, 0xFA, 3, 0) ∧
      requestPorts (.ok (.request (.write 0xF4 0x27))) = (2, 0xF4, 1, 0x27) := by decide

/-- LDCAL rows 1 and 3 of section 2.2: order, byte order and signedness. -/
theorem test_ldcal :
    coefsAfter (exec (.ldcal calRef) empty) =
        [27504, 26435, -1000, 36477, -10685, 3024, 2855, 140, -7, 15500, -14600, 6000] ∧
      coefsAfter (exec (.ldcal ⟨#v[0x00, 0x80, 0x00, 0x80, 0xFF, 0x7F, 0x00, 0x80, 0x00, 0x80, 0xFF, 0x7F,
        0, 0, 0, 0, 0, 0, 0, 0, 0, 0, 0, 0]⟩) empty) =
        [32768, -32768, 32767, 32768, -32768, 32767, 0, 0, 0, 0, 0, 0] := by decide

/-- LDCAL last row of section 2.2: refused, nothing changes. -/
theorem test_ldcal_twice :
    answered (exec (.ldcal ⟨Vector.replicate 24 0⟩) ready) = some (.error (.domainError .calAlreadyLoaded)) ∧
      coefsAfter (exec (.ldcal ⟨Vector.replicate 24 0⟩) ready) =
        [27504, 26435, -1000, 36477, -10685, 3024, 2855, 140, -7, 15500, -14600, 6000] := by decide

/-- MKRAW rows 2 and 4 of section 2.2. -/
theorem test_mkraw :
    answered (exec (.mkraw ⟨0x7E, 0xED, 0x0F⟩) empty) = some (.ok (.raw 519888)) ∧
      answered (exec (.mkraw ⟨0x12, 0x34, 0x56⟩) empty) = some (.ok (.raw 74565)) := by decide

/-- COMPT rows E1, D-T8 (floor, not truncation) and D-T14 (two products wrap), and the guard. -/
theorem test_compt :
    answered (exec (.compt 519888) loaded) = some (.ok (.temperature (patternT 2508))) ∧
      answered (exec (.compt 208) (temperatureState 0 (-2048) 0)) = some (.ok (.temperature (patternT (-1)))) ∧
      answered (exec (.compt 0) (temperatureState 65535 (-32768) (-32768))) =
        some (.ok (.temperature (patternT 1))) ∧
      answered (exec (.compt 519888) empty) = some (.error (.domainError .calNotLoaded)) := by decide

/-- `TF` of rows E1, D-T2 and D-T11, and the last row of section 2.3: overwritten, not accumulated. -/
theorem test_compt_fine :
    fineAfter (exec (.compt 519888) loaded) = some 128422 ∧
      fineAfter (exec (.compt 0) loaded) = some (-721301) ∧
      fineAfter (exec (.compt 1048575) (temperatureState 0 32767 0)) = some (-80) ∧
      fineAfter (exec (.compt 540000) (stateOf true true refCal 96494)) = some 160661 := by decide

/-- COMPP rows D-P1, D-P3 (truncating division), D-P15 (negative divisor) and D-P16 (wraps). -/
theorem test_compp :
    answered (exec (.compp 415148) ready) = some (.ok (.pressure (patternP 25767233))) ∧
      answered (exec (.compp 1048575) ready) = some (.ok (.pressure (patternP (-1697504)))) ∧
      answered (exec (.compp 415148) (stateOf true true refCal (-2147483648))) =
        some (.ok (.pressure (patternP (-324071487)))) ∧
      answered (exec (.compp 0) (pressureState 128000 1 0 0 (-32768) 0 0 32767 32767 32767)) =
        some (.ok (.pressure (patternP (-1862205529616)))) := by decide

/-- COMPP rows D-Z1, D-Z2, D-G1 and D-G3: the errors and their priority. -/
theorem test_compp_errors :
    answered (exec (.compp 415148) (pressureState 128422 0 (-10685) 3024 2855 140 (-7) 15500 (-14600) 6000)) =
        some (.error (.domainError .zeroDivisor)) ∧
      answered (exec (.compp 0) (pressureState 1176576 36477 (-32768) 0 0 0 0 0 0 0)) =
        some (.error (.domainError .zeroDivisor)) ∧
      answered (exec (.compp 415148) empty) = some (.error (.domainError .calNotLoaded)) ∧
      answered (exec (.compp 415148) (temperatureState 0 0 0)) = some (.error (.domainError .tFineUnset)) := by decide

/-- Section 2.1, last row. -/
theorem test_reserved :
    answered (exec .reserved9 empty) = some (.error (.unsupportedCommand .reservedOp)) ∧
      answered (exec .reservedF ready) = some (.error (.unsupportedCommand .reservedOp)) := by decide

/-- The status and detail numbers of 30_encoding R68, and what E1 and D-P1 report. -/
theorem test_report :
    (Response.error (.domainError .calAlreadyLoaded)).ports = portsZero 1 4 ∧
      (Response.error (.unsupportedCommand .reservedOp)).ports = portsZero 2 2 ∧
      celsius (patternT 2508) = 2508 / 100 ∧ pascals (patternP 25767233) = 25767233 / 256 := by
  refine ⟨by decide, by decide, ?_, ?_⟩
  · rw [celsius, show (patternT 2508).toInt = 2508 by decide]
    norm_num
  · rw [pascals, show (patternP 25767233).toInt = 25767233 by decide]
    norm_num

/-- A word of the opcode table presented after reset is the first operation the block executes. -/
theorem test_table_word_runs :
    decodeTableWord 4 0xC = some .reservedC ∧
      step (State.reset.withFetchWord 4 0xC) =
        .next (State.reset.answer (.error (.unsupportedCommand .reservedOp))) := ⟨by decide, rfl⟩

/-- Lines 9 to 10 of Program B: a reset between two requests discards both flags. -/
theorem test_reset_event : ∃ t, step (ready.present .reset) = .next t ∧ t.calValid = false ∧ t.tfValid = false :=
  ⟨_, rfl, rfl, rfl⟩

/-- Lines 1 and 2 of Program C: `$1` is the command word that ENC returned. -/
theorem test_sequence_line :
    (runLines 0 [.request (.enc 3 0xFA 0), .dec (.line 1)] empty).map answered =
      some (some (.ok (.fields 3 0xFA 0))) := by decide

/-! ### Witnesses: the hypotheses of each statement are met -/

/-- An unloaded state that differs from `empty` in every register, with an event listed and a response given. -/
def otherEmpty : State :=
  { stateOf false false refCal 5 with inputs := [.reset], responses := [.ok .loaded], session := 3 }

/-- A state with the block of `ready` and another history. -/
def otherReady : State := { ready with inputs := [.reset], responses := [.ok .loaded], session := 3 }

/-- `ready` with T1, T2, T3 changed. -/
def readyOtherT : State := { ready with cal := calOf 1 2 3 36477 (-10685) 3024 2855 140 (-7) 15500 (-14600) 6000 }

/-- `loaded` with P1 to P9 and `TF` changed. -/
def loadedOtherP : State := { stateOf true false (calOf 27504 26435 (-1000) 1 2 3 4 5 6 7 8 9) 7 with session := 1 }

/-- A run of three events. -/
def busy : State :=
  { empty with inputs := [.request (encode (.ldcal calRef)), .reset, .request (encode (.compt 519888))] }

theorem witness_EncPacksThreeFields : (Request.zeros 0x0).op = 0x0 := by decide

theorem witness_DecSplitsCommandWord :
    (Request.zeros 0x1).op = 0x1 ∧
      (0x12345678 : Word).toNat % 2 ^ 24 = (0xFF345678 : Word).toNat % 2 ^ 24 := by decide

theorem witness_CmdReadsOnDirectionZero : (Request.zeros 0x2).op = 0x2 ∧ (Request.zeros 0x2).dir = 0 := by decide

theorem witness_CmdWritesOnDirectionOne :
    (encode (.cmdWr 0x0027F401)).op = 0x2 ∧ (encode (.cmdWr 0x0027F401)).dir = 1 := by decide

theorem witness_CmdRejectsOtherDirections :
    (encode (.cmdUnsup 2 7)).op = 0x2 ∧ 2 ≤ (encode (.cmdUnsup 2 7)).dir.toNat ∧
      2 ≤ (2 : Word).toNat ∧ 2 ≤ (0xFFFFFFFF : Word).toNat := by decide

theorem witness_CmdClassifiesByDirection :
    (encode (.cmdRd 7)).op = 0x2 ∧ (encode (.cmdWr 7)).op = 0x2 ∧ (encode (.cmdUnsup 2 7)).op = 0x2 := by decide

theorem witness_BsrdReadsOneRegister : (encode (.bsrd 0xD0)).op = 0x3 := by decide

theorem witness_BswrFrameIsRegisterThenValue : (encode (.bswr 0xF4 0x27)).op = 0x4 := by decide

/-- An unsupported direction, the first and the last reserved select, and an operation that answers `Ok`. -/
theorem witness_StatelessOperationsIgnoreState :
    ((Instr.cmdUnsup 2 7).wf = true ∧ writesNothing (.cmdUnsup 2 7) = true ∧ ∀ raw, Instr.cmdUnsup 2 7 ≠ .compp raw) ∧
      (Instr.reservedF.wf = true ∧ writesNothing .reservedF = true ∧ (∀ raw, Instr.reservedF ≠ .compp raw) ∧
        0x9#4 ≤ Instr.reservedF.select ∧ 0x9#4 ≤ Instr.reserved9.select) ∧
      (Instr.bsrd 7).wf = true ∧ writesNothing (.bsrd 7) = true ∧ (∀ raw, Instr.bsrd 7 ≠ .compp raw) ∧
      (∀ dir cw, Instr.bsrd 7 ≠ .cmdUnsup dir cw) ∧ (Instr.bsrd 7).select < 0x9#4 :=
  ⟨⟨by decide, by decide, by intro raw h; cases h⟩,
    ⟨by decide, by decide, (by intro raw h; cases h), by decide, by decide⟩,
    by decide, by decide, (by intro raw h; cases h), (by intro dir cw h; cases h), by decide⟩

theorem witness_LdcalLoadsPairsInOrder :
    (encode (.ldcal calRef)).op = 0x5 ∧ empty.calValid = false ∧ State.reset.calValid = false :=
  ⟨by decide, rfl, rfl⟩

theorem witness_CalibrationIsWrittenOnce :
    (∃ t, exec (.ldcal calRef) empty = .next t ∧ t.cal ≠ empty.cal) ∧
      (ready.calValid = true ∧ HostEvent.reset ∉ ready.inputs ∧ ∃ t, Host.Core.run core 1 ready = .next t) ∧
      ∀ raw, Instr.enc 1 2 3 ≠ .compt raw ∧ Instr.enc 1 2 3 ≠ .compp raw :=
  ⟨⟨_, exec_ldcal_unloaded calRef (by decide), by decide⟩, ⟨rfl, by simp [ready, stateOf], _, rfl⟩,
    by intro raw; constructor <;> intro h <;> cases h⟩

theorem witness_CoefficientsReadBySignedness :
    ((0 : Fin 12) = 0 ∨ (0 : Fin 12) = 3) ∧ ((3 : Fin 12) = 0 ∨ (3 : Fin 12) = 3) ∧
      ((1 : Fin 12) ≠ 0 ∧ (1 : Fin 12) ≠ 3) ∧ (11 : Fin 12) ≠ 0 ∧ (11 : Fin 12) ≠ 3 := by decide

theorem witness_MkrawAssemblesSample : (encode (.mkraw ⟨0x7E, 0xED, 0x0F⟩)).op = 0x6 := by decide

theorem witness_ComptNeedsCalibration :
    (encode (.compt 7)).op = 0x7 ∧ empty.calValid = false ∧
      (loaded.calValid = loadedOtherP.calValid ∧ loaded.cal[0] = loadedOtherP.cal[0] ∧
        loaded.cal[1] = loadedOtherP.cal[1] ∧ loaded.cal[2] = loadedOtherP.cal[2] ∧
        loaded.cal[3] ≠ loadedOtherP.cal[3]) ∧ loaded.calValid = true := by decide

theorem witness_ComptComputesTemperature : loaded.calValid = true := rfl

/-- `TempExact` holds in row E1, and in row D-T2 at the least sample; it fails in row D-T11. -/
theorem witness_TemperatureIsExactWithoutOverflow :
    loaded.calValid = true ∧ TempExact (rawValue 519888) (loaded.coef 0) (loaded.coef 1) (loaded.coef 2) ∧
      TempExact (rawValue 0) (loaded.coef 0) (loaded.coef 1) (loaded.coef 2) ∧
      ¬ TempExact (rawValue 1048575) 0 32767 0 := by decide

/-- The three bounds hold in row E1, in a loaded state. -/
theorem witness_SmallProductsAreTempExact :
    loaded.calValid = true ∧
    |rawValue 519888 / 2 ^ 3 - 2 * loaded.coef 0| * |loaded.coef 1| < 2 ^ 31 ∧
      |rawValue 519888 / 2 ^ 4 - loaded.coef 0| ≤ 46340 ∧
      (rawValue 519888 / 2 ^ 4 - loaded.coef 0) * (rawValue 519888 / 2 ^ 4 - loaded.coef 0) / 2 ^ 12 * |loaded.coef 2|
        < 2 ^ 31 := by decide

theorem witness_ComppTestsCalibrationThenTemperature :
    (encode (.compp 7)).op = 0x8 ∧ empty.calValid = false ∧ (loaded.calValid = true ∧ loaded.tfValid = false) ∧
      (∃ t, exec (.compp 415148) ready = .next t) ∧
      ready.calValid = readyOtherT.calValid ∧ ready.tfValid = readyOtherT.tfValid ∧ ready.tf = readyOtherT.tf ∧
      (∀ i : Fin 12, 3 ≤ i.val → ready.cal[i] = readyOtherT.cal[i]) ∧ ready.cal ≠ readyOtherT.cal :=
  ⟨by decide, rfl, ⟨rfl, rfl⟩, ⟨_, exec_compp _ _⟩, rfl, rfl, rfl, by decide, by decide⟩

theorem witness_ComppComputesPressure :
    ready.calValid = true ∧ ready.tfValid = true ∧ ready.divisor ≠ 0 := by decide

/-- Rows D-Z1 and D-Z2, and `e` at -2^32, at its least value -2^33, and just outside both ends. -/
theorem witness_ComppRaisesOnZeroDivisor :
    (ready.calValid = true ∧ ready.tfValid = true) ∧
      (pressureState 128422 0 (-10685) 3024 2855 140 (-7) 15500 (-14600) 6000).coef 3 = 0 ∧
      2 ^ 47 + presC 1176576 (-32768) 0 = 0 ∧
      (presE 1176576 1 (-32768) (-1) = -2 ^ 32 ∧ presD 1176576 1 (-32768) (-1) = -1) ∧
      (presE 1176576 2 (-32768) (-1) = -2 ^ 33 ∧ presD 1176576 2 (-32768) (-1) = -1) ∧
      presD 1176576 3 (-32768) (-1) = -2 ∧
      (presE 1176576 1 (-32768) 1 = 2 ^ 32 ∧ presD 1176576 1 (-32768) 1 = 0) ∧
      (presE 1176576 2 (-32768) 1 = 2 ^ 33 ∧ presD 1176576 2 (-32768) 1 = 1) ∧
      (ready.tf = readyOtherT.tf ∧ ready.cal[3] = readyOtherT.cal[3] ∧ ready.cal[4] = readyOtherT.cal[4] ∧
        ready.cal[5] = readyOtherT.cal[5]) := by decide

/-- `PresExact` holds in row D-P1 and fails in row D-P16. -/
theorem witness_PressureIsExactWithoutOverflow :
    ready.calValid = true ∧ ready.tfValid = true ∧ ready.PresExact 415148 ∧ ready.docDivisor ≠ 0 ∧
      ¬ (pressureState 128000 1 0 0 (-32768) 0 0 32767 32767 32767).PresExact 0 :=
  ⟨rfl, rfl, ⟨by decide, by decide⟩, by decide, fun h => absurd h.1.2.2.2.2.2.2.2.2.2 (by decide)⟩

/-- Program D: two samples, then the pressure. -/
theorem witness_StaleFineIsUsedAsIs :
    (∃ t, exec (.enc 1 2 3) ready = .next t ∧ ready.tfValid = true) ∧
      (∃ s1 s2 s2', loaded.calValid = true ∧ exec (.compt 500000) loaded = .next s1 ∧
        exec (.compt 540000) s1 = .next s2 ∧ exec (.compt 540000) loaded = .next s2') ∧
      ∃ s1, exec (.compp 415148) ready = .next s1 :=
  ⟨⟨_, rfl, rfl⟩, ⟨_, _, _, rfl, exec_compt_loaded _ rfl, exec_compt_loaded _ rfl, exec_compt_loaded _ rfl⟩,
    _, exec_compp _ _⟩

theorem witness_CompensationFailuresAreDomainErrors :
    ready.sameBlock otherReady ∧ ready ≠ otherReady ∧
      ∃ s', exec (.compt 519888) empty = .next s' ∧
        s'.responses = empty.responses ++ [.error (.domainError .calNotLoaded)] :=
  ⟨by decide, by decide, _, exec_compt_unloaded _ rfl, rfl⟩

theorem witness_TemperatureCircuitAgrees : loaded.calValid = true := rfl

theorem witness_PressureCircuitAgrees : ready.calValid = true ∧ ready.tfValid = true := by decide

theorem witness_ErrorsChangeNothing :
    ∃ t, exec (.ldcal calRef) ready = .next t ∧
      t.responses = ready.responses ++ [.error (.domainError .calAlreadyLoaded)] :=
  ⟨_, exec_ldcal_loaded _ rfl, rfl⟩

theorem witness_ErrorsAreNotSticky :
    (∃ t, exec (.compt 519888) empty = .next t ∧
      t.responses = empty.responses ++ [.error (.domainError .calNotLoaded)]) ∧
      empty.calValid = false ∧ loaded.calValid = true ∧ (temperatureState 27504 26435 (-1000)).coef 3 = 0 :=
  ⟨⟨_, exec_compt_unloaded _ rfl, rfl⟩, rfl, rfl, by decide⟩

theorem witness_StatusFollowsTheTable :
    (Instr.cmdUnsup 2 7).wf = true ∧ (Instr.compp 415148).wf = true ∧ Instr.reserved9.wf = true := by decide

theorem witness_HostErrorsAreNeverRaised :
    (∃ t, step busy = .next t) ∧ ∃ t, step { busy with responses := [.error .transportError] } = .next t :=
  ⟨⟨_, rfl⟩, _, rfl⟩

theorem witness_DomainErrorHasFourCauses : ∃ t, exec (.compp 415148) loaded = .next t := ⟨_, exec_compp _ _⟩

theorem witness_ReservedSelectsAnswerReservedOp :
    9 ≤ (Request.zeros 0x9).op.toNat ∧ 9 ≤ (Request.zeros 0xF).op.toNat := by decide

/-- One request for each clause, with the bits set that the operation ignores. -/
theorem witness_EveryRequestHasADefinedOutcome :
    ((encode (.cmdUnsup 2 7)).op = 0x2 ∧ 2 ≤ (encode (.cmdUnsup 2 7)).dir.toNat) ∧
      (9 ≤ (encode .reserved9).op.toNat ∧ 9 ≤ (encode .reservedF).op.toNat) ∧
      (encode (.enc 3 0xFA 0)).op = 0x0 ∧ (encode (.dec 0x12345678)).op = 0x1 ∧
      ((encode (.cmdRd 0xABFF8818)).op = 0x2 ∧ (encode (.cmdRd 0xABFF8818)).dir = 0) ∧
      ((encode (.cmdRd 0xFA00)).op = 0x2 ∧ (encode (.cmdRd 0xFA00)).dir = 0 ∧
        (encode (.cmdRd 0xFA00)).cw.toNat % 2 ^ 8 = 0) ∧
      ((encode (.cmdWr 0xAB27F407)).op = 0x2 ∧ (encode (.cmdWr 0xAB27F407)).dir = 1) ∧
      (encode (.bsrd 0xD0)).op = 0x3 ∧ (encode (.bswr 0xFF 0x00)).op = 0x4 ∧
      (encode (.mkraw ⟨0x7E, 0xED, 0x0F⟩)).op = 0x6 := by decide

theorem witness_OperationsWriteOnlyTheirItems :
    (∃ t, exec (.enc 1 2 3) ready = .next t ∧ writesNothing (.enc 1 2 3) = true) ∧
      (∃ t, exec (.ldcal calRef) empty = .next t) ∧ ∃ t, exec (.compt 519888) loaded = .next t :=
  ⟨⟨_, rfl, rfl⟩, ⟨_, exec_ldcal_unloaded _ rfl⟩, _, exec_compt_loaded _ rfl⟩

theorem witness_FineIsWrittenByComptAndReadByCompp :
    (∃ t, exec (.compt 519888) loaded = .next t ∧ t.tf ≠ loaded.tf) ∧ (∀ raw, Instr.compt 7 ≠ .compp raw) ∧
      loaded.calValid = true :=
  ⟨⟨_, exec_compt_loaded _ rfl, by decide⟩, (by intro raw h; cases h), rfl⟩

theorem witness_ResponseDependsOnlyOnTheFourItems : ready.sameBlock otherReady ∧ ready ≠ otherReady := by decide

/-- A COMPT and a COMPP step from states that have the invariant, one with `tf_valid` set. -/
theorem witness_StepKeepsInvariant :
    (loaded.Inv ∧ ∃ t, step (loaded.present (.request (encode (.compt 519888)))) = .next t) ∧
      ready.Inv ∧ ready.tfValid = true ∧ ∃ t, step (ready.present (.request (encode (.compp 415148)))) = .next t :=
  ⟨⟨by decide, exec_answers (.compt 519888) _⟩, by decide, rfl, exec_answers (.compp 415148) _⟩

theorem witness_ResetBeginsASession : (ready.present .reset).inputs = .reset :: [] := rfl

theorem witness_ResetValuesCannotBeObserved :
    ({ empty with inputs := [.reset] } : State).inputs = otherEmpty.inputs ∧ empty.calValid = false ∧
      otherEmpty.calValid = false ∧ empty.tfValid = false ∧ otherEmpty.tfValid = false ∧
      empty.cal ≠ otherEmpty.cal ∧ empty.tf ≠ otherEmpty.tf := by decide

/-- Two states that differ in every register no flag vouches for, with a reset to come; and a loaded pair that differs
in `TF` alone. -/
theorem witness_StepKeepsIndistinguishability :
    (({ empty with inputs := [.reset] } : State).inputs = otherEmpty.inputs ∧
      ({ empty with inputs := [.reset] } : State).sameVisible otherEmpty ∧ empty.cal ≠ otherEmpty.cal) ∧
      loaded.inputs = (stateOf true false refCal 7).inputs ∧ loaded.sameVisible (stateOf true false refCal 7) ∧
      loaded.tf ≠ (stateOf true false refCal 7).tf := by decide

/-- A session of LDCAL, COMPT, COMPT after an earlier session, for every clause. -/
theorem witness_SessionHistoryFixesTheState :
    empty.calValid = false ∧ empty.tfValid = false ∧
      firstLoad (sinceReset [] [.request (encode (.compt 3)), .reset, .request (encode (.ldcal calRef)),
        .request (encode (.compt 500000)), .request (encode (.compt 540000))]) = some calRef ∧
      lastGoodSample (sinceReset [] [.request (encode (.compt 3)), .reset, .request (encode (.ldcal calRef)),
        .request (encode (.compt 500000)), .request (encode (.compt 540000))]) = some 540000 := by decide

theorem witness_StepRunsTheDecodedRequest :
    (empty.present (.request (encode (.enc 1 2 3)))).inputs = .request (encode (.enc 1 2 3)) :: [] := rfl

theorem witness_BlockWaitsWithoutRequest : State.reset.inputs = [] := rfl

theorem witness_DecodeOfEncodeIsIdentity :
    (Instr.cmdUnsup 2 7).wf = true ∧ (Instr.ldcal calRef).wf = true ∧ Instr.reservedF.wf = true := by decide

theorem witness_SamplingPairsExpand : 0 ≤ loaded.responses.length ∧ 1 ≤ otherReady.responses.length := by decide

end Sys2Proof.Machine.Tests
end

section
/-! PROOFS. The family of 10_state: who writes and who reads `CAL` and `TF`, and what a response depends on. An
operation has one of three effects on a state (`Effect`); the two-state statements say on which pairs of states an
operation has the same effect. -/

namespace Sys2Proof.Machine

/-! ### Steps and runs -/

/-- With nothing presented the block waits. -/
theorem step_of_inputs_nil {s : State} (h : s.inputs = []) : step s = .next s := by
  simp only [step, fetch_nil h]

/-- A reset event is applied to the state it was taken from. -/
theorem step_of_inputs_reset {s : State} {es : List HostEvent} (h : s.inputs = .reset :: es) :
    step s = .next (applyReset { s with inputs := es }) := by
  simp only [step, fetch_cons h]

/-- A request is decoded and executed. -/
theorem step_of_inputs_request {s : State} {p : Request} {es : List HostEvent} (h : s.inputs = .request p :: es) :
    step s = exec (decode p) { s with inputs := es } := by
  simp only [step, fetch_cons h]

/-- No step stops the block (30_encoding R70, 70_reset R168). -/
theorem step_answers (s : State) : ∃ t, step s = .next t := by
  cases hi : s.inputs with
  | nil => exact ⟨_, step_of_inputs_nil hi⟩
  | cons e es =>
    cases e with
    | reset => exact ⟨_, step_of_inputs_reset hi⟩
    | request p =>
      rw [step_of_inputs_request hi]
      exact exec_answers _ _

/-- A run begins with its first step. -/
theorem run_succ_of_step {s t : State} (h : step s = .next t) (n : Nat) :
    Host.Core.run core (n + 1) s = Host.Core.run core n t := by
  have hstep : core.step s = .next t := h
  simp only [Host.Core.run, hstep]

/-- What every step keeps, every run keeps. -/
theorem run_keeps {P : State → Prop} (hstep : ∀ u v, P u → step u = .next v → P v) (n : Nat) {s t : State}
    (hs : P s) (h : Host.Core.run core n s = .next t) : P t := by
  induction n generalizing s with
  | zero =>
    cases h
    exact hs
  | succ n ih =>
    obtain ⟨u, hu⟩ := step_answers s
    rw [run_succ_of_step hu] at h
    exact ih (hstep s u hs hu) h

/-! ### The three effects of an operation -/

/-- What an operation does to a state: it only answers, it loads the calibration, or it computes `TF` and answers `T`. -/
inductive Effect where
  | answer (r : Response)
  | load (B : CalBlock)
  | fine (tf t : Word)

/-- The state an effect leaves. -/
def Effect.apply : Effect → State → State
  | .answer r, s => s.answer r
  | .load B, s => s.afterLdcal B
  | .fine tf t, s => s.afterCompt tf t

/-- The response an effect gives. -/
def Effect.response : Effect → Response
  | .answer r => r
  | .load _ => .ok .loaded
  | .fine _ t => .ok (.temperature t)

@[simp] theorem Effect.apply_responses (e : Effect) (s : State) :
    (e.apply s).responses = s.responses ++ [e.response] := by
  cases e <;> rfl

@[simp] theorem Effect.apply_inputs (e : Effect) (s : State) : (e.apply s).inputs = s.inputs := by
  cases e <;> rfl

/-- An effect cannot tell apart what no operation can tell apart. -/
theorem Effect.apply_sameVisible (e : Effect) {s t : State} (h : s.sameVisible t) :
    (e.apply s).sameVisible (e.apply t) := by
  obtain ⟨hcv, htv, hc, ht⟩ := h
  cases e with
  | answer r => exact ⟨hcv, htv, hc, ht⟩
  | load B => exact ⟨rfl, htv, fun _ => rfl, ht⟩
  | fine x y => exact ⟨hcv, rfl, hc, fun _ => rfl⟩

/-- An effect writes the four items the same way whatever else the states hold. -/
theorem Effect.apply_sameBlock (e : Effect) {s t : State} (h : s.sameBlock t) :
    (e.apply s).sameBlock (e.apply t) := by
  obtain ⟨hc, ht, hcv, htv⟩ := h
  cases e with
  | answer r => exact ⟨hc, ht, hcv, htv⟩
  | load B => exact ⟨rfl, ht, rfl, htv⟩
  | fine x y => exact ⟨hc, rfl, hcv, rfl⟩

/-- What an effect leaves in `CAL` and the flags does not come from `TF`. -/
theorem Effect.apply_withTf (e : Effect) (s : State) (x : Word) :
    (e.apply s).cal = (e.apply { s with tf := x }).cal ∧
      (e.apply s).calValid = (e.apply { s with tf := x }).calValid ∧
      (e.apply s).tfValid = (e.apply { s with tf := x }).tfValid := by
  cases e <;> exact ⟨rfl, rfl, rfl⟩

/-! ### On which states an operation has the same effect -/

/-- The operation has one and the same effect on both states. -/
def SameEffect (i : Instr) (s t : State) : Prop :=
  ∃ e : Effect, exec i s = .next (e.apply s) ∧ exec i t = .next (e.apply t)

/-- CMD answers the same in every state (40_codec R84). -/
theorem classify_uniform (dir cw : Word) : ∃ r : Response, ∀ s, classify dir cw s = .next (s.answer r) := by
  unfold classify
  split
  · exact ⟨_, fun _ => rfl⟩
  · split
    · exact ⟨_, fun _ => rfl⟩
    · exact ⟨_, fun _ => rfl⟩

/-- LDCAL, COMPT and COMPP apart, an operation gives one response in all states and does nothing else. -/
theorem exec_uniform_or (i : Instr) :
    (∃ r : Response, ∀ s, exec i s = .next (s.answer r)) ∨
      (∃ B, i = .ldcal B) ∨ (∃ raw, i = .compt raw) ∨ ∃ raw, i = .compp raw := by
  cases i
  case ldcal B => exact .inr (.inl ⟨B, rfl⟩)
  case compt raw => exact .inr (.inr (.inl ⟨raw, rfl⟩))
  case compp raw => exact .inr (.inr (.inr ⟨raw, rfl⟩))
  case cmdUnsup dir cw => exact .inl (classify_uniform dir cw)
  all_goals exact .inl ⟨_, fun _ => rfl⟩

/-- LDCAL looks at `cal_valid` alone (41_calibration_and_raw R101). -/
theorem sameEffect_ldcal (B : CalBlock) {s t : State} (hcv : s.calValid = t.calValid) :
    SameEffect (.ldcal B) s t := by
  cases hs : s.calValid with
  | false => exact ⟨.load B, exec_ldcal_unloaded B hs, exec_ldcal_unloaded B (hcv ▸ hs)⟩
  | true => exact ⟨.answer _, exec_ldcal_loaded B hs, exec_ldcal_loaded B (hcv ▸ hs)⟩

/-- The new `TF` depends on `CAL` alone (42_compensation R111). -/
theorem State.fineOf_congr {s t : State} (hc : s.cal = t.cal) (raw : Raw) : s.fineOf raw = t.fineOf raw := by
  simp only [State.fineOf, State.coef_congr hc]

/-- COMPT looks at `cal_valid`, and at `CAL` once it is loaded (42_compensation R111). -/
theorem sameEffect_compt (raw : Raw) {s t : State} (hcv : s.calValid = t.calValid)
    (hc : s.calValid = true → s.cal = t.cal) : SameEffect (.compt raw) s t := by
  cases hs : s.calValid with
  | false => exact ⟨.answer _, exec_compt_unloaded raw hs, exec_compt_unloaded raw (hcv ▸ hs)⟩
  | true =>
    refine ⟨.fine _ _, exec_compt_loaded raw hs, ?_⟩
    rw [State.fineOf_congr (hc hs)]
    exact exec_compt_loaded raw (hcv ▸ hs)

/-- The divisor depends on `CAL` and `TF` alone (42_compensation R119). -/
theorem State.divisor_congr {s t : State} (hc : s.cal = t.cal) (ht : s.tf = t.tf) : s.divisor = t.divisor := by
  simp only [State.divisor, State.tfValue, State.coef_congr hc, ht]

/-- The pressure depends on `CAL` and `TF` alone (42_compensation R118). -/
theorem State.pressureOf_congr {s t : State} (hc : s.cal = t.cal) (ht : s.tf = t.tf) (raw : Raw) :
    s.pressureOf raw = t.pressureOf raw := by
  simp only [State.pressureOf, State.quotient, State.tfValue, State.divisor_congr hc ht, State.coef_congr hc, ht]

/-- COMPP reads `CAL` and `TF` only behind its guards (10_state R29, 42_compensation R117). -/
theorem comppResponse_congr (raw : Raw) {s t : State} (h : s.sameVisible t) :
    comppResponse raw s = comppResponse raw t := by
  obtain ⟨hcv, htv, hc, ht⟩ := h
  unfold comppResponse
  rw [← hcv, ← htv]
  by_cases hs : s.calValid = false
  · rw [if_pos hs, if_pos hs]
  · by_cases hf : s.tfValid = false
    · rw [if_neg hs, if_neg hs, if_pos hf, if_pos hf]
    · rw [Bool.not_eq_false] at hs hf
      rw [State.divisor_congr (hc hs) (ht hf), State.pressureOf_congr (hc hs) (ht hf)]

/-- An operation that does not compute looks at `cal_valid` alone. -/
theorem sameEffect_of_not_compensation {i : Instr} (hi : ∀ raw, i ≠ .compt raw ∧ i ≠ .compp raw) {s t : State}
    (hcv : s.calValid = t.calValid) : SameEffect i s t := by
  obtain ⟨r, hr⟩ | ⟨B, rfl⟩ | ⟨raw, rfl⟩ | ⟨raw, rfl⟩ := exec_uniform_or i
  · exact ⟨.answer r, hr s, hr t⟩
  · exact sameEffect_ldcal B hcv
  · exact absurd rfl (hi raw).1
  · exact absurd rfl (hi raw).2

/-- An operation other than COMPP looks at `cal_valid` and the `CAL` it vouches for, never at `TF`. -/
theorem sameEffect_of_ne_compp {i : Instr} (hi : ∀ raw, i ≠ .compp raw) {s t : State}
    (hcv : s.calValid = t.calValid) (hc : s.calValid = true → s.cal = t.cal) : SameEffect i s t := by
  by_cases hT : ∃ raw, i = .compt raw
  · obtain ⟨raw, rfl⟩ := hT
    exact sameEffect_compt raw hcv hc
  · exact sameEffect_of_not_compensation (fun raw => ⟨fun h => hT ⟨raw, h⟩, hi raw⟩) hcv

/-- Every operation has the same effect on two states that agree where the flags say a value is held. -/
theorem sameEffect_of_sameVisible (i : Instr) {s t : State} (h : s.sameVisible t) : SameEffect i s t := by
  by_cases hP : ∃ raw, i = .compp raw
  · obtain ⟨raw, rfl⟩ := hP
    refine ⟨.answer _, exec_compp raw s, ?_⟩
    rw [comppResponse_congr raw h]
    exact exec_compp raw t
  · obtain ⟨hcv, -, hc, -⟩ := h
    exact sameEffect_of_ne_compp (fun raw h => hP ⟨raw, h⟩) hcv hc

/-! ### Who writes -/

/-- The one operation that writes `CAL` is an LDCAL in an unloaded state. -/
theorem ldcal_of_cal_ne {i : Instr} {s t : State} (h : exec i s = .next t) (hne : t.cal ≠ s.cal) :
    ∃ B, i = .ldcal B ∧ s.calValid = false ∧ t = s.afterLdcal B := by
  obtain ⟨r, rfl⟩ | hB | ⟨raw, x, y, -, -, rfl, -⟩ := exec_cases h
  · exact absurd rfl hne
  · exact hB
  · exact absurd rfl hne

/-- The one operation that writes `TF` is COMPT. -/
theorem compt_of_tf_ne {i : Instr} {s t : State} (h : exec i s = .next t) (hne : t.tf ≠ s.tf) :
    ∃ raw, i = .compt raw := by
  obtain ⟨r, rfl⟩ | ⟨B, -, -, rfl⟩ | ⟨raw, x, y, hi, -⟩ := exec_cases h
  · exact absurd rfl hne
  · exact absurd rfl hne
  · exact ⟨raw, hi⟩

/-- What COMPT leaves in `TF` in a loaded state. -/
theorem tf_of_exec_compt {raw : Raw} {s t : State} (hs : s.calValid = true) (h : exec (.compt raw) s = .next t) :
    t.tf = patternT (s.fineOf raw) := by
  have ht : s.afterCompt _ _ = t := Host.Outcome.next.inj ((exec_compt_loaded raw hs).symm.trans h)
  rw [← ht, State.afterCompt_tf]

/-- Every operation leaves the host's list alone. -/
theorem exec_inputs {i : Instr} {s t : State} (h : exec i s = .next t) : t.inputs = s.inputs := by
  obtain ⟨r, rfl⟩ | ⟨B, -, -, rfl⟩ | ⟨raw, x, y, -, -, rfl, -⟩ := exec_cases h
  · rfl
  · rfl
  · rfl

/-- In a loaded state every operation leaves `CAL` and `cal_valid` alone (10_state R23). -/
theorem exec_keeps_loaded {i : Instr} {s t : State} (hs : s.calValid = true) (h : exec i s = .next t) :
    t.cal = s.cal ∧ t.calValid = true := by
  obtain ⟨r, rfl⟩ | ⟨B, -, hf, -⟩ | ⟨raw, x, y, -, -, rfl, -⟩ := exec_cases h
  · exact ⟨rfl, hs⟩
  · rw [hs] at hf
    cases hf
  · exact ⟨rfl, hs⟩

/-- `CAL` is loaded with `c` and no reset is to come. -/
def State.HoldsCal (c : Vector Coef 12) (s : State) : Prop :=
  s.cal = c ∧ s.calValid = true ∧ HostEvent.reset ∉ s.inputs

/-- A step without a reset keeps a loaded calibration (10_state R23). -/
theorem step_keeps_holdsCal (c : Vector Coef 12) (s t : State) (hs : s.HoldsCal c) (h : step s = .next t) :
    t.HoldsCal c := by
  obtain ⟨hcal, hcv, hreset⟩ := hs
  obtain ⟨-, rfl⟩ | ⟨es, hes, -⟩ | ⟨p, es, hes, hexec⟩ := step_cases h
  · exact ⟨hcal, hcv, hreset⟩
  · exact absurd (hes ▸ List.mem_cons_self) hreset
  · rw [hes] at hreset
    obtain ⟨hcal', hcv'⟩ := exec_keeps_loaded (s := { s with inputs := es }) hcv hexec
    exact ⟨hcal'.trans hcal, hcv', exec_inputs hexec ▸ fun hm => hreset (List.mem_cons_of_mem _ hm)⟩

/-! ### Two runs -/

/-- With both flags 0 nothing of `CAL` and `TF` is visible (10_state R29). -/
theorem sameVisible_of_flags_clear {s t : State} (hsc : s.calValid = false) (htc : t.calValid = false)
    (hsf : s.tfValid = false) (htf : t.tfValid = false) : s.sameVisible t :=
  ⟨hsc.trans htc.symm, hsf.trans htf.symm, fun h => absurd (hsc.symm.trans h) (by decide),
    fun h => absurd (hsf.symm.trans h) (by decide)⟩

/-- A step of two states that no operation can tell apart, facing the same events, adds the same responses. -/
theorem step_keeps_sameVisible {s t : State} (hin : s.inputs = t.inputs) (h : s.sameVisible t) :
    ∃ (s' t' : State) (rs : List Response), step s = .next s' ∧ step t = .next t' ∧ s'.inputs = t'.inputs ∧
      s'.responses = s.responses ++ rs ∧ t'.responses = t.responses ++ rs ∧ s'.sameVisible t' := by
  cases hs : s.inputs with
  | nil =>
    exact ⟨s, t, [], step_of_inputs_nil hs, step_of_inputs_nil (hin ▸ hs), hin, by simp, by simp, h⟩
  | cons e es =>
    have ht : t.inputs = e :: es := hin ▸ hs
    cases e with
    | reset =>
      exact ⟨_, _, [], step_of_inputs_reset hs, step_of_inputs_reset ht, rfl, by simp, by simp,
        sameVisible_of_flags_clear rfl rfl rfl rfl⟩
    | request p =>
      have htaken : ({ s with inputs := es } : State).sameVisible { t with inputs := es } := h
      obtain ⟨e, hes, het⟩ := sameEffect_of_sameVisible (decode p) htaken
      rw [step_of_inputs_request hs, step_of_inputs_request ht]
      exact ⟨_, _, [e.response], hes, het, by simp, by simp, by simp, e.apply_sameVisible htaken⟩

/-- Two runs from states that no operation can tell apart, facing the same events, add the same responses. -/
theorem run_keeps_sameVisible (n : Nat) {s t : State} (hin : s.inputs = t.inputs) (h : s.sameVisible t) :
    ∃ (s' t' : State) (rs : List Response), Host.Core.run core n s = .next s' ∧ Host.Core.run core n t = .next t' ∧
      s'.responses = s.responses ++ rs ∧ t'.responses = t.responses ++ rs ∧ s'.sameVisible t' := by
  induction n generalizing s t with
  | zero => exact ⟨s, t, [], rfl, rfl, by simp, by simp, h⟩
  | succ n ih =>
    obtain ⟨s₁, t₁, rs, hs, ht, hin₁, hrs, hrt, h₁⟩ := step_keeps_sameVisible hin h
    obtain ⟨s', t', rs', hs', ht', hrs', hrt', h'⟩ := ih hin₁ h₁
    rw [run_succ_of_step hs, run_succ_of_step ht]
    exact ⟨s', t', rs ++ rs', hs', ht', by rw [hrs', hrs, List.append_assoc], by rw [hrt', hrt, List.append_assoc], h'⟩

/-! ### The obligations -/

/-- Settles O13: inversion of `exec` for the writer, the run invariant `HoldsCal`, and the effect of operations that do
not compute. -/
theorem calibrationIsWrittenOnce : Obligations.CalibrationIsWrittenOnce := by
  refine ⟨fun i s t h hne => ?_, fun n s t hcv hreset h => ?_, fun B s hcv => exec_ldcal_loaded B hcv,
    fun i s other hi => ?_⟩
  · obtain ⟨B, hi, hcv, rfl⟩ := ldcal_of_cal_ne h hne
    exact ⟨hcv, rfl, B, hi, rfl⟩
  · obtain ⟨hcal, hcv', -⟩ := run_keeps (step_keeps_holdsCal s.cal) n ⟨rfl, hcv, hreset⟩ h
    exact ⟨hcal, hcv'⟩
  · obtain ⟨e, hs, ht⟩ := sameEffect_of_not_compensation hi (s := s) (t := { s with cal := other }) rfl
    exact ⟨e.response, _, _, hs, ht, e.apply_responses _, e.apply_responses _⟩

/-- Settles O39: no effect but that of COMPP looks at `TF`. -/
theorem fineIsWrittenByComptAndReadByCompp : Obligations.FineIsWrittenByComptAndReadByCompp := by
  refine ⟨fun i s t h hne => compt_of_tf_ne h hne, fun i s x hi => ?_⟩
  obtain ⟨e, hs, ht⟩ := sameEffect_of_ne_compp hi (s := s) (t := { s with tf := x }) rfl fun _ => rfl
  obtain ⟨hcal, hcv, htv⟩ := e.apply_withTf s x
  refine ⟨e.response, _, _, hs, ht, e.apply_responses _, e.apply_responses _, hcal, hcv, htv, fun raw hraw hl => ?_⟩
  subst hraw
  rw [tf_of_exec_compt hl hs, tf_of_exec_compt (s := { s with tf := x }) hl ht,
    State.fineOf_congr (s := s) (t := { s with tf := x }) rfl]

/-- Settles O40: states that agree on the four items agree on what is visible, so an operation has the same effect. -/
theorem responseDependsOnlyOnTheFourItems : Obligations.ResponseDependsOnlyOnTheFourItems := by
  intro i s t h
  have hv : s.sameVisible t := by
    obtain ⟨hc, ht, hcv, htv⟩ := h
    exact ⟨hcv, htv, fun _ => hc, fun _ => ht⟩
  obtain ⟨e, hs, ht⟩ := sameEffect_of_sameVisible i hv
  exact ⟨e.response, _, _, hs, ht, e.apply_responses s, e.apply_responses t, e.apply_sameBlock h⟩

/-- Settles O44: with both flags 0 nothing is visible, and runs keep that. -/
theorem resetValuesCannotBeObserved : Obligations.ResetValuesCannotBeObserved :=
  ⟨⟨rfl, rfl⟩, fun _ => ⟨rfl, rfl⟩, fun n _ _ hin hsc htc hsf htf =>
    run_keeps_sameVisible n hin (sameVisible_of_flags_clear hsc htc hsf htf)⟩

end Sys2Proof.Machine
end

section
/-! PROOFS. The family of 20_memory: the byte layout of the calibration block LDCAL takes. -/

namespace Sys2Proof.Machine

/-- Select 0x5 presents LDCAL with the 24 bytes of the port `calblk` (30_encoding R66, R67). -/
theorem decode_eq_ldcal {p : Request} (h : p.op = 0x5) : decode p = .ldcal p.calblk := by
  simp [decode, h]

/-- Coefficient i as a number: low byte first (20_memory R43). -/
theorem calOfBlock_get_toNat (B : CalBlock) (i : Fin 12) :
    (calOfBlock B)[i].toNat = B.bytes[2 * i.val].toNat + B.bytes[2 * i.val + 1].toNat * 2 ^ 8 := by
  rw [calOfBlock_get, pair16_toNat]

/-- Settles O12: an LDCAL in an unloaded state leaves `afterLdcal`, whose registers are those of `calOfBlock`. -/
theorem ldcalLoadsPairsInOrder : Obligations.LdcalLoadsPairsInOrder :=
  ⟨fun _ hop => decode_eq_ldcal hop, fun B _ hcv =>
    ⟨calOfBlock B, exec_ldcal_unloaded B hcv, calOfBlock_get_toNat B⟩⟩

end Sys2Proof.Machine
end

section
/-! PROOFS. The family of 30_encoding: what each select answers, and the sampling pairs. Select by select, a request is
decoded (`decode_eq_…`) and its operation answers one response; a sampling pair presents MKRAW, which only adds a
response, and then an operation that does not look at responses. -/

namespace Sys2Proof.Machine

/-! ### The operation of each select (30_encoding R66) -/

/-- Select 0x0 presents ENC. -/
theorem decode_eq_enc {p : Request} (h : p.op = 0x0) : decode p = .enc p.length p.register p.value := by
  simp [decode, h]

/-- Select 0x1 presents DEC. -/
theorem decode_eq_dec {p : Request} (h : p.op = 0x1) : decode p = .dec p.cw := by
  simp [decode, h]

/-- Select 0x2 presents the row of CMD for the direction. -/
theorem decode_eq_decodeCmd {p : Request} (h : p.op = 0x2) : decode p = decodeCmd p.dir p.cw := by
  simp [decode, h]

/-- Select 0x3 presents BSRD. -/
theorem decode_eq_bsrd {p : Request} (h : p.op = 0x3) : decode p = .bsrd p.b0 := by
  simp [decode, h]

/-- Select 0x4 presents BSWR, the register first (30_encoding R63). -/
theorem decode_eq_bswr {p : Request} (h : p.op = 0x4) : decode p = .bswr p.b0 p.b1 := by
  simp [decode, h]

/-- Select 0x6 presents MKRAW. -/
theorem decode_eq_mkraw {p : Request} (h : p.op = 0x6) : decode p = .mkraw p.meas := by
  simp [decode, h]

/-! ### What each operation answers -/

/-- Every operation has one of the three effects. -/
theorem exec_eq_effect (i : Instr) (s : State) : ∃ e : Effect, exec i s = .next (e.apply s) := by
  obtain ⟨e, he, -⟩ := sameEffect_of_sameVisible i (s := s) (t := s) ⟨rfl, rfl, fun _ => rfl, fun _ => rfl⟩
  exact ⟨e, he⟩

/-- Every operation gives exactly one response (70_reset R168). -/
theorem exec_answers_once (i : Instr) (s : State) :
    ∃ (t : State) (r : Response), exec i s = .next t ∧ t.responses = s.responses ++ [r] := by
  obtain ⟨e, he⟩ := exec_eq_effect i s
  exact ⟨_, e.response, he, e.apply_responses s⟩

/-- ENC (40_codec R81). -/
theorem exec_enc (l r v : Byte) (s : State) :
    exec (.enc l r v) s = .next (s.answer (.ok (.word (packCommand l r v)))) := rfl

/-- DEC (40_codec R82). -/
theorem exec_dec (cw : Word) (s : State) :
    exec (.dec cw) s = .next (s.answer (.ok (.fields (cwLength cw) (cwRegister cw) (cwValue cw)))) := rfl

/-- BSRD (40_codec R88). -/
theorem exec_bsrd (b0 : Byte) (s : State) : exec (.bsrd b0) s = .next (s.answer (.ok (.request (.read b0 1)))) := rfl

/-- BSWR (40_codec R89). -/
theorem exec_bswr (b0 b1 : Byte) (s : State) :
    exec (.bswr b0 b1) s = .next (s.answer (.ok (.request (.write b0 b1)))) := rfl

/-- MKRAW (41_calibration_and_raw R103). -/
theorem exec_mkraw (B : MeasBlock) (s : State) : exec (.mkraw B) s = .next (s.answer (.ok (.raw (raw20 B)))) := rfl

/-- The three rows of CMD are one operation, which classifies its direction (40_codec R84). -/
theorem exec_decodeCmd (dir cw : Word) (s : State) : exec (decodeCmd dir cw) s = classify dir cw s := by
  unfold decodeCmd
  split
  next h0 => rw [BitVec.eq_of_toNat_eq (x := dir) (y := 0) h0, exec, execCmdRd]
  next =>
    split
    next h1 => rw [BitVec.eq_of_toNat_eq (x := dir) (y := 1) h1, exec, execCmdWr]
    next => rw [exec, execCmdUnsup]

/-- A request of select 0x2 is classified by its direction. -/
theorem exec_decode_of_cmd {p : Request} (h : p.op = 0x2) (s : State) :
    exec (decode p) s = classify p.dir p.cw s := by
  rw [decode_eq_decodeCmd h, exec_decodeCmd]

/-- Direction 0 is a read; the value field is ignored (40_codec R85). -/
theorem classify_read (cw : Word) (s : State) :
    classify 0 cw s = .next (s.answer (.ok (.request (.read (cwRegister cw) (cwLength cw))))) := rfl

/-- Direction 1 is a write; the length field is ignored (40_codec R86). -/
theorem classify_write (cw : Word) (s : State) :
    classify 1 cw s = .next (s.answer (.ok (.request (.write (cwRegister cw) (cwValue cw))))) := rfl

/-- Any other direction is unsupported (40_codec R87). -/
theorem classify_badDirection {dir : Word} (h : 2 ≤ dir.toNat) (cw : Word) (s : State) :
    classify dir cw s = .next (s.answer (.error (.unsupportedCommand .badDirection))) := by
  rw [classify, if_neg (by omega), if_neg (by omega), raise]

/-- The selects from 9 on are the seven reserved ones. -/
theorem reserved_selects : ∀ op : BitVec 4, 9 ≤ op.toNat →
    op = 0x9 ∨ op = 0xA ∨ op = 0xB ∨ op = 0xC ∨ op = 0xD ∨ op = 0xE ∨ op = 0xF := by
  decide

/-- A reserved select answers ReservedOp and does nothing else. -/
theorem exec_decode_of_reserved {p : Request} (h : 9 ≤ p.op.toNat) (s : State) :
    exec (decode p) s = .next (s.answer (.error (.unsupportedCommand .reservedOp))) := by
  obtain hop | hop | hop | hop | hop | hop | hop := reserved_selects p.op h <;>
    simp only [decode, hop] <;> rfl

/-! ### Sequences -/

/-- A request that is presented is decoded and executed next. -/
theorem step_present_request (s : State) (p : Request) : step (s.present (.request p)) = exec (decode p) s :=
  step_of_inputs_request (s.present_inputs _)

/-- Presenting an instruction's request first executes it. -/
theorem runEvents_request_cons {i : Instr} (hi : decode (encode i) = i) {s t : State} (h : exec i s = .next t)
    (es : List HostEvent) : runEvents (.request (encode i) :: es) s = runEvents es t := by
  rw [runEvents, step_present_request, hi, h]

/-- A line whose events run to `t` hands `t` to the lines after it. -/
theorem runLines_cons {base : Nat} {l : Line} {s t : State} {es : List HostEvent} (hl : lineEvents s base l = some es)
    (h : runEvents es s = .next t) (ls : List Line) : runLines base (l :: ls) s = runLines base ls t := by
  simp only [runLines, hl, h]

/-- The line just executed is the one `$k` names when k counts it as the last (30_encoding R72). -/
theorem lineResponse_answer {s : State} {base : Nat} (h : base ≤ s.responses.length) (r : Response) :
    lineResponse (s.answer r) base (s.responses.length - base + 1) = some r := by
  have hk : base + (s.responses.length - base + 1 - 1) = s.responses.length := by omega
  rw [lineResponse, if_neg (Nat.succ_ne_zero _), hk]
  exact List.getElem?_concat_length

/-- `$k` after MKRAW on line k is the sample it returned. -/
theorem resolveRaw_after_mkraw {s : State} {base : Nat} (h : base ≤ s.responses.length) (x : Raw) :
    resolveRaw (s.answer (.ok (.raw x))) base (.line (s.responses.length - base + 1)) = some x := by
  simp only [resolveRaw, lineResponse_answer h]

/-- A line that presents MKRAW and then `i` runs as the line of MKRAW followed by a line `l'` that then presents `i`;
the pair adds the response and leaves the items that `i` alone does, since `i` does not look at responses. -/
theorem runLines_pair {B : MeasBlock} {i : Instr} (hi : decode (encode i) = i) {s : State} {base : Nat} {l l' : Line}
    (hl : lineEvents s base l = some [.request (encode (.mkraw B)), .request (encode i)])
    (hl' : lineEvents (s.answer (.ok (.raw (raw20 B)))) base l' = some [.request (encode i)]) :
    runLines base [l] s = runLines base [.request (.mkraw B), l'] s ∧
      ∃ (t : State) (r : Response), runLines base [l] s = some (.next t) ∧
        t.responses = s.responses ++ [.ok (.raw (raw20 B)), r] ∧
        ∃ u : State, exec i s = .next u ∧ u.responses = s.responses ++ [r] ∧ t.sameBlock u := by
  have hmk (es : List HostEvent) := runEvents_request_cons (i := .mkraw B) rfl (exec_mkraw B s) es
  obtain ⟨e, hafter, halone⟩ := sameEffect_of_sameVisible i (s := s.answer (.ok (.raw (raw20 B)))) (t := s)
    ⟨rfl, rfl, fun _ => rfl, fun _ => rfl⟩
  have hsecond := runEvents_request_cons hi hafter []
  have hpair := runLines_cons hl ((hmk _).trans hsecond) []
  have hlines := (runLines_cons (l := .request (.mkraw B)) rfl (hmk []) [l']).trans (runLines_cons hl' hsecond [])
  refine ⟨hpair.trans hlines.symm, _, e.response, hpair, ?_, _, halone, e.apply_responses s,
    e.apply_sameBlock ⟨rfl, rfl, rfl, rfl⟩⟩
  simp

/-! ### The obligations -/

/-- Settles O9: decoding select 0x4 and the answer of BSWR. -/
theorem bswrFrameIsRegisterThenValue : Obligations.BswrFrameIsRegisterThenValue :=
  ⟨fun _ hop => decode_eq_bswr hop, exec_bswr⟩

/-- Settles O37: each row is the operation its select decodes to, what that answers, and the operands as numbers. -/
theorem everyRequestHasADefinedOutcome : Obligations.EveryRequestHasADefinedOutcome := by
  have hread (p : Request) (s : State) (hop : p.op = 0x2) (hdir : p.dir = 0) : exec (decode p) s =
      .next (s.answer (.ok (.request (.read (cwRegister p.cw) (cwLength p.cw))))) := by
    rw [exec_decode_of_cmd hop, hdir, classify_read]
  refine ⟨fun p s => exec_answers_once _ s, fun p s hop hdir => ?badDirection,
    fun p s hop => exec_decode_of_reserved hop s, ⟨rfl, rfl⟩, fun p s hop => ?enc, fun p s hop => ?dec,
    fun p s hop hdir => ?read, fun p s hop hdir hlen => ?readNone, fun p s hop hdir => ?write, fun p s hop => ?bsrd,
    fun p s hop => ?bswr, fun p s hop => ?mkraw⟩
  case badDirection =>
    rw [exec_decode_of_cmd hop]
    exact classify_badDirection hdir p.cw s
  case enc =>
    rw [decode_eq_enc hop]
    exact ⟨_, packCommand_toNat _ _ _, exec_enc _ _ _ s⟩
  case dec =>
    rw [decode_eq_dec hop]
    exact ⟨_, _, _, cwLength_toNat _, cwRegister_toNat _, cwValue_toNat _, exec_dec p.cw s⟩
  case read => exact ⟨_, _, cwRegister_toNat _, cwLength_toNat _, hread p s hop hdir⟩
  case readNone =>
    have hzero : cwLength p.cw = 0 := BitVec.eq_of_toNat_eq ((cwLength_toNat p.cw).trans hlen)
    exact ⟨_, cwRegister_toNat _, hzero ▸ hread p s hop hdir⟩
  case write =>
    rw [exec_decode_of_cmd hop, hdir]
    exact ⟨_, _, cwRegister_toNat _, cwValue_toNat _, classify_write p.cw s⟩
  case bsrd =>
    rw [decode_eq_bsrd hop]
    exact exec_bsrd p.b0 s
  case bswr =>
    rw [decode_eq_bswr hop]
    exact exec_bswr p.b0 p.b1 s
  case mkraw =>
    rw [decode_eq_mkraw hop]
    exact ⟨_, raw20_toNat _, exec_mkraw p.meas s⟩

/-- Settles O52: both pairs are the pair of `runLines_pair`, and `$k` is the sample MKRAW has just returned. -/
theorem samplingPairsExpand : Obligations.SamplingPairsExpand := by
  intro B s base hbase
  have hsample := resolveRaw_after_mkraw hbase (raw20 B)
  have hcompt : lineEvents (s.answer (.ok (.raw (raw20 B)))) base (.compt (.line (s.responses.length - base + 1))) =
      some [.request (encode (.compt (raw20 B)))] := by
    rw [lineEvents, hsample, Option.map_some]
  have hcompp : lineEvents (s.answer (.ok (.raw (raw20 B)))) base (.compp (.line (s.responses.length - base + 1))) =
      some [.request (encode (.compp (raw20 B)))] := by
    rw [lineEvents, hsample, Option.map_some]
  obtain ⟨hsampt, hsamptAnswer⟩ := runLines_pair (l := .sampt B) rfl rfl hcompt
  obtain ⟨hsampp, hsamppAnswer⟩ := runLines_pair (l := .sampp B) rfl rfl hcompp
  exact ⟨hsampt, hsampp, hsamptAnswer, hsamppAnswer⟩

end Sys2Proof.Machine
end

section
/-! PROOFS. The family of 40_codec: the packing and unpacking of command words and the classification of CMD. A request
is decoded (`decode_eq_…`), its operation answers one response, and the fields in it are numbers by the laws of
operands. -/

namespace Sys2Proof.Machine

/-! ### Command words -/

/-- The three fields lie below bit 24, so they do not see bits 31:24 (40_codec R82). -/
theorem cwFields_congr {cw cw' : Word} (h : cw.toNat % 2 ^ 24 = cw'.toNat % 2 ^ 24) :
    cwLength cw = cwLength cw' ∧ cwRegister cw = cwRegister cw' ∧ cwValue cw = cwValue cw' := by
  refine ⟨BitVec.eq_of_toNat_eq ?_, BitVec.eq_of_toNat_eq ?_, BitVec.eq_of_toNat_eq ?_⟩
  · rw [cwLength_toNat, cwLength_toNat]
    omega
  · rw [cwRegister_toNat, cwRegister_toNat]
    omega
  · rw [cwValue_toNat, cwValue_toNat]
    omega

/-- A packed command word has bits 31:24 zero (30_encoding R61). -/
theorem packCommand_lt (l r v : Byte) : (packCommand l r v).toNat < 2 ^ 24 := by
  have hl := l.isLt
  have hr := r.isLt
  have hv := v.isLt
  rw [packCommand_toNat]
  omega

/-! ### CMD -/

/-- Direction 0 presents the read row of CMD (40_codec R85). -/
theorem decodeCmd_read (cw : Word) : decodeCmd 0 cw = .cmdRd cw := rfl

/-- Direction 1 presents the write row of CMD (40_codec R86). -/
theorem decodeCmd_write (cw : Word) : decodeCmd 1 cw = .cmdWr cw := rfl

/-- Any other direction presents the unsupported row of CMD (40_codec R87). -/
theorem decodeCmd_badDirection {dir : Word} (h : 2 ≤ dir.toNat) (cw : Word) :
    decodeCmd dir cw = .cmdUnsup dir cw := by
  rw [decodeCmd, if_neg (by omega), if_neg (by omega)]

/-- The one response of CMD, which is all it does: the choice of R84 is made in the response. -/
theorem classify_eq_answer (dir cw : Word) (s : State) : classify dir cw s = .next (s.answer
    (if dir.toNat = 0 then .ok (.request (.read (cwRegister cw) (cwLength cw)))
     else if dir.toNat = 1 then .ok (.request (.write (cwRegister cw) (cwValue cw)))
     else .error (.unsupportedCommand .badDirection))) := by
  by_cases h0 : dir.toNat = 0
  · rw [classify, if_pos h0, if_pos h0, respond]
  · by_cases h1 : dir.toNat = 1
    · rw [classify, if_neg h0, if_neg h0, if_pos h1, if_pos h1, respond]
    · rw [classify, if_neg h0, if_neg h0, if_neg h1, if_neg h1, raise]

/-! ### The obligations -/

/-- Settles O7: select 0x2 is `classify`, which only answers, and its three fields are the bytes of the word. -/
theorem cmdClassifiesByDirection : Obligations.CmdClassifiesByDirection := by
  intro p s hop
  refine ⟨cwLength p.cw, cwRegister p.cw, cwValue p.cw, cwLength_toNat _, cwRegister_toNat _, cwValue_toNat _, ?_⟩
  rw [exec_decode_of_cmd hop]
  exact classify_eq_answer p.dir p.cw s

/-- Settles O1: the answer of ENC is `packCommand`, whose fields do not overlap and end below bit 24. -/
theorem encPacksThreeFields : Obligations.EncPacksThreeFields :=
  ⟨fun _ hop => decode_eq_enc hop, fun l r v s =>
    ⟨packCommand l r v, exec_enc l r v s, packCommand_toNat l r v, packCommand_lt l r v⟩⟩

/-- Settles O2: the answer of DEC is the three fields, which are the three lowest bytes and see nothing above them. -/
theorem decSplitsCommandWord : Obligations.DecSplitsCommandWord := by
  refine ⟨fun _ hop => decode_eq_dec hop, fun cw s =>
    ⟨_, _, _, exec_dec cw s, cwLength_toNat cw, cwRegister_toNat cw, cwValue_toNat cw⟩, fun cw cw' s h => ?_⟩
  obtain ⟨hlength, hregister, hvalue⟩ := cwFields_congr h
  rw [exec_dec, exec_dec, hlength, hregister, hvalue]

/-- Settles O4: direction 0 selects the read row, which is `classify` at 0. -/
theorem cmdReadsOnDirectionZero : Obligations.CmdReadsOnDirectionZero := by
  refine ⟨fun p hop hdir => ?_, fun cw s =>
    ⟨_, _, classify_read cw s, cwRegister_toNat cw, cwLength_toNat cw⟩⟩
  rw [decode_eq_decodeCmd hop, hdir, decodeCmd_read]

/-- Settles O5: direction 1 selects the write row, which is `classify` at 1. -/
theorem cmdWritesOnDirectionOne : Obligations.CmdWritesOnDirectionOne := by
  refine ⟨fun p hop hdir => ?_, fun cw s =>
    ⟨_, _, classify_write cw s, cwRegister_toNat cw, cwValue_toNat cw⟩⟩
  rw [decode_eq_decodeCmd hop, hdir, decodeCmd_write]

/-- Settles O6: any other direction selects the unsupported row, which raises BadDirection whatever the word. -/
theorem cmdRejectsOtherDirections : Obligations.CmdRejectsOtherDirections := by
  refine ⟨fun p hop hdir => ?_, fun dir cw s hdir => classify_badDirection hdir cw s, rfl, rfl, rfl, rfl, rfl⟩
  rw [decode_eq_decodeCmd hop, decodeCmd_badDirection hdir]

/-- Settles O8: decoding select 0x3 and the answer of BSRD. -/
theorem bsrdReadsOneRegister : Obligations.BsrdReadsOneRegister :=
  ⟨fun _ hop => decode_eq_bsrd hop, exec_bsrd⟩

end Sys2Proof.Machine
end

section
/-! PROOFS. The family of 41_calibration_and_raw: the raw sample MKRAW joins from the three bytes of a measurement. -/

namespace Sys2Proof.Machine

/-- Settles O15: decoding select 0x6, the answer `raw20` of MKRAW, and that sample as a number, whose last term drops
the low four bits of XLSB. -/
theorem mkrawAssemblesSample : Obligations.MkrawAssemblesSample :=
  ⟨fun _ hop => decode_eq_mkraw hop, fun B s => ⟨raw20 B, exec_mkraw B s, raw20_toNat B⟩⟩

end Sys2Proof.Machine
end

section
/-! PROOFS. The family of 42_compensation: what guards COMPT and COMPP, what they read, and what they compute. Behind
its guards each gives one response; the laws below say which registers that response sees, and that the steps of R112
and R118 are the balanced remainders the statements write out. -/

namespace Sys2Proof.Machine

/-! ### The operation of each select (30_encoding R66) -/

/-- Select 0x7 presents COMPT. -/
theorem decode_eq_compt {p : Request} (h : p.op = 0x7) : decode p = .compt p.raw := by
  simp [decode, h]

/-- Select 0x8 presents COMPP. -/
theorem decode_eq_compp {p : Request} (h : p.op = 0x8) : decode p = .compp p.raw := by
  simp [decode, h]

/-! ### What each operation reads -/

/-- A coefficient depends on its own register alone (10_state R22). -/
theorem State.coef_congr_of_register {s t : State} {i : Fin 12} (h : s.cal[i] = t.cal[i]) : s.coef i = t.coef i := by
  rw [State.coef, State.coef, h]

/-- The new `TF` depends on `CAL[0..2]` alone (42_compensation R111). -/
theorem State.fineOf_congr_of_registers {s t : State} (h0 : s.cal[0] = t.cal[0]) (h1 : s.cal[1] = t.cal[1])
    (h2 : s.cal[2] = t.cal[2]) (raw : Raw) : s.fineOf raw = t.fineOf raw := by
  rw [State.fineOf, State.fineOf, State.coef_congr_of_register (i := 0) h0, State.coef_congr_of_register (i := 1) h1,
    State.coef_congr_of_register (i := 2) h2]

/-- COMPT looks at `cal_valid` and at the new `TF` it computes, and at nothing else (42_compensation R111). -/
theorem sameEffect_compt_of_fineOf (raw : Raw) {s t : State} (hcv : s.calValid = t.calValid)
    (hf : s.fineOf raw = t.fineOf raw) : SameEffect (.compt raw) s t := by
  cases hs : s.calValid with
  | false => exact ⟨.answer _, exec_compt_unloaded raw hs, exec_compt_unloaded raw (hcv ▸ hs)⟩
  | true =>
    refine ⟨.fine _ _, exec_compt_loaded raw hs, ?_⟩
    rw [hf]
    exact exec_compt_loaded raw (hcv ▸ hs)

/-- COMPP looks at the flags, `TF` and `CAL[3..11]` alone (42_compensation R117). -/
theorem comppResponse_congr_of_registers (raw : Raw) {s t : State} (hcv : s.calValid = t.calValid)
    (htv : s.tfValid = t.tfValid) (ht : s.tf = t.tf) (hc : ∀ i : Fin 12, 3 ≤ i.val → s.cal[i] = t.cal[i]) :
    comppResponse raw s = comppResponse raw t := by
  have hcoef : ∀ i : Fin 12, 3 ≤ i.val → s.coef i = t.coef i := fun i hi => State.coef_congr_of_register (hc i hi)
  have hd : s.divisor = t.divisor := by
    rw [State.divisor, State.divisor, State.tfValue, State.tfValue, ht, hcoef 3 (by decide), hcoef 4 (by decide),
      hcoef 5 (by decide)]
  have hq : s.quotient raw = t.quotient raw := by
    rw [State.quotient, State.quotient, hd, State.tfValue, State.tfValue, ht, hcoef 6 (by decide),
      hcoef 7 (by decide), hcoef 8 (by decide)]
  have hp : s.pressureOf raw = t.pressureOf raw := by
    rw [State.pressureOf, State.pressureOf, hq, hcoef 9 (by decide), hcoef 10 (by decide), hcoef 11 (by decide)]
  rw [comppResponse, comppResponse, hcv, htv, hd, hp]

/-- States that agree on the four items agree on what is visible. -/
theorem sameVisible_of_sameBlock {s t : State} (h : s.sameBlock t) : s.sameVisible t := by
  obtain ⟨hc, ht, hcv, htv⟩ := h
  exact ⟨hcv, htv, fun _ => hc, fun _ => ht⟩

/-! ### What each operation leaves -/

/-- Answering writes no item of the block. -/
theorem State.answer_sameBlock (s : State) (r : Response) : (s.answer r).sameBlock s :=
  ⟨rfl, rfl, rfl, rfl⟩

/-- Inversion of a COMPT in a loaded state. -/
theorem eq_afterCompt_of_exec {raw : Raw} {s t : State} (hs : s.calValid = true)
    (h : exec (.compt raw) s = .next t) :
    t = s.afterCompt (patternT (s.fineOf raw)) (patternT (tempResult (s.fineOf raw))) :=
  (Host.Outcome.next.inj ((exec_compt_loaded raw hs).symm.trans h)).symm

/-- Inversion of a COMPP. -/
theorem eq_answer_of_exec_compp {raw : Raw} {s t : State} (h : exec (.compp raw) s = .next t) :
    t = s.answer (comppResponse raw s) :=
  (Host.Outcome.next.inj ((exec_compp raw s).symm.trans h)).symm

/-- No operation clears `tf_valid` (42_compensation R123). -/
theorem exec_keeps_tfValid {i : Instr} {s t : State} (h : exec i s = .next t) (hs : s.tfValid = true) :
    t.tfValid = true := by
  obtain ⟨r, rfl⟩ | ⟨B, -, -, rfl⟩ | ⟨raw, x, y, -, -, rfl, -⟩ := exec_cases h
  · exact hs
  · exact hs
  · rfl

/-- COMPT over the state another COMPT left leaves what it leaves over the first state: the earlier `TF` is
overwritten and not read (42_compensation R111, R123). -/
theorem compt_after_compt_sameBlock {r1 r2 : Raw} {s s1 s2 s2' : State} (hs : s.calValid = true)
    (h1 : exec (.compt r1) s = .next s1) (h2 : exec (.compt r2) s1 = .next s2)
    (h2' : exec (.compt r2) s = .next s2') : s2.sameBlock s2' := by
  obtain ⟨hcal1, hcv1⟩ := exec_keeps_loaded hs h1
  obtain ⟨hcal2, hcv2⟩ := exec_keeps_loaded hcv1 h2
  obtain ⟨hcal2', hcv2'⟩ := exec_keeps_loaded hs h2'
  refine ⟨by rw [hcal2, hcal1, hcal2'], ?_, by rw [hcv2, hcv2'], ?_⟩
  · rw [tf_of_exec_compt hcv1 h2, tf_of_exec_compt hs h2', State.fineOf_congr hcal1]
  · rw [eq_afterCompt_of_exec hcv1 h2, eq_afterCompt_of_exec hs h2', State.afterCompt_tfValid,
      State.afterCompt_tfValid]

/-! ### The failures -/

/-- COMPP in an unloaded state (42_compensation R117). -/
theorem comppResponse_of_unloaded (raw : Raw) {s : State} (hc : s.calValid = false) :
    comppResponse raw s = .error (.domainError .calNotLoaded) := by
  rw [comppResponse, if_pos hc]

/-- COMPP in a loaded state before any COMPT (42_compensation R117). -/
theorem comppResponse_of_tfUnset (raw : Raw) {s : State} (hc : s.calValid = true) (ht : s.tfValid = false) :
    comppResponse raw s = .error (.domainError .tFineUnset) := by
  rw [comppResponse, if_neg (by simp [hc]), if_pos ht]

/-- COMPP behind its guards, the divisor zero (42_compensation R119). -/
theorem comppResponse_of_divisor_zero (raw : Raw) {s : State} (hc : s.calValid = true) (ht : s.tfValid = true)
    (hd : s.divisor = 0) : comppResponse raw s = .error (.domainError .zeroDivisor) := by
  rw [comppResponse, if_neg (by simp [hc]), if_neg (by simp [ht]), if_pos hd]

/-- COMPP behind its guards, the divisor not zero (42_compensation R120). -/
theorem comppResponse_of_divisor_ne_zero (raw : Raw) {s : State} (hc : s.calValid = true) (ht : s.tfValid = true)
    (hd : s.divisor ≠ 0) : comppResponse raw s = .ok (.pressure (patternP (s.pressureOf raw))) := by
  rw [comppResponse, if_neg (by simp [hc]), if_neg (by simp [ht]), if_neg hd]

/-- COMPP fails only for one of three causes (42_compensation R124). -/
theorem cause_of_comppResponse_error {raw : Raw} {s : State} {e : ErrorKind} (h : comppResponse raw s = .error e) :
    e = .domainError .calNotLoaded ∨ e = .domainError .tFineUnset ∨ e = .domainError .zeroDivisor := by
  cases hc : s.calValid with
  | false =>
    rw [comppResponse_of_unloaded raw hc] at h
    exact .inl (Response.error.inj h).symm
  | true =>
    cases ht : s.tfValid with
    | false =>
      rw [comppResponse_of_tfUnset raw hc ht] at h
      exact .inr (.inl (Response.error.inj h).symm)
    | true =>
      by_cases hd : s.divisor = 0
      · rw [comppResponse_of_divisor_zero raw hc ht hd] at h
        exact .inr (.inr (Response.error.inj h).symm)
      · rw [comppResponse_of_divisor_ne_zero raw hc ht hd] at h
        cases h

/-- A COMPT that answers an error has raised CalNotLoaded and written nothing (42_compensation R111). -/
theorem compt_error {raw : Raw} {s t : State} {e : ErrorKind} (h : exec (.compt raw) s = .next t)
    (hr : t.responses = s.responses ++ [.error e]) : e = .domainError .calNotLoaded ∧ t.sameBlock s := by
  cases hc : s.calValid with
  | false =>
    have ht : s.answer _ = t := Host.Outcome.next.inj ((exec_compt_unloaded raw hc).symm.trans h)
    subst ht
    rw [State.answer_responses] at hr
    simp only [List.append_cancel_left_eq, List.cons.injEq, Response.error.injEq, and_true] at hr
    exact ⟨hr.symm, s.answer_sameBlock _⟩
  | true =>
    rw [eq_afterCompt_of_exec hc h, State.afterCompt_responses] at hr
    simp at hr

/-- A COMPP that answers an error has raised one of three causes and written nothing (42_compensation R124). -/
theorem compp_error {raw : Raw} {s t : State} {e : ErrorKind} (h : exec (.compp raw) s = .next t)
    (hr : t.responses = s.responses ++ [.error e]) :
    (e = .domainError .calNotLoaded ∨ e = .domainError .tFineUnset ∨ e = .domainError .zeroDivisor) ∧
      t.sameBlock s := by
  obtain rfl := eq_answer_of_exec_compp h
  rw [State.answer_responses] at hr
  simp only [List.append_cancel_left_eq, List.cons.injEq, and_true] at hr
  exact ⟨cause_of_comppResponse_error hr, s.answer_sameBlock _⟩

/-! ### The computations -/

/-- `tf` of R112 is of type s32. -/
theorem State.wT_fineOf (s : State) (raw : Raw) : wT (s.fineOf raw) = s.fineOf raw := by
  rw [State.fineOf, tempFine, addT, wT_wT]

/-- `T` of R112 is of type s32: the shift of a wrapped value does not leave the range. -/
theorem wT_tempResult (tf : Int) : wT (tempResult tf) = tempResult tf := by
  obtain ⟨hlo, hhi⟩ := wT_range (mulT tf 5 + 128)
  rw [tempResult, addT, asr]
  exact wT_of_fits (by omega) (by omega)

/-- `p` of R118 is of type s64. -/
theorem State.wP_pressureOf (s : State) (raw : Raw) : wP (s.pressureOf raw) = s.pressureOf raw := by
  rw [State.pressureOf, presResult, addP, wP_wP]

/-! ### The obligations -/

/-- Settles O16: the guard raises; behind it COMPT sees only the `TF` it computes, a function of `CAL[0..2]`. -/
theorem comptNeedsCalibration : Obligations.ComptNeedsCalibration := by
  refine ⟨fun p hop => decode_eq_compt hop, fun raw s hcv => exec_compt_unloaded raw hcv,
    fun raw s t hcv h0 h1 h2 => ?_⟩
  have hf := State.fineOf_congr_of_registers h0 h1 h2 raw
  obtain ⟨e, hs, ht⟩ := sameEffect_compt_of_fineOf raw hcv hf
  refine ⟨e.response, _, _, hs, ht, e.apply_responses s, e.apply_responses t, fun hl => ?_⟩
  rw [tf_of_exec_compt hl hs, tf_of_exec_compt (hcv ▸ hl) ht, hf]

/-- Settles O17: the balanced remainder of the statement is `wT`, and then its steps are those of `tempFine` and
`tempResult`, both of type s32, so the patterns COMPT leaves stand for them. -/
theorem comptComputesTemperature : Obligations.ComptComputesTemperature := by
  intro raw s hcv w
  have hw : w = wT := funext fun z => (wT_eq_bmod z).symm
  clear_value w
  subst hw
  intro x1 x2 x3 x4 var1 y1 y2 y3 y4 var2 tf m a T
  have htf : (patternT (s.fineOf raw)).toInt = tf := by
    rw [patternT_toInt, State.wT_fineOf]
    rfl
  have hT : (patternT (tempResult (s.fineOf raw))).toInt = T := by
    rw [patternT_toInt, wT_tempResult]
    rfl
  exact ⟨_, _, htf, hT, by rw [celsius, hT], exec_compt_loaded raw hcv⟩

/-- Settles O21: the two guards in order; COMPP only answers, and its answer does not see `CAL[0..2]`. -/
theorem comppTestsCalibrationThenTemperature : Obligations.ComppTestsCalibrationThenTemperature := by
  refine ⟨fun p hop => decode_eq_compp hop, fun raw s hcv => ?_, fun raw s hcv htv => ?_, fun raw s t h => ?_,
    fun raw s t hcv htv ht hc => ⟨_, exec_compp raw s, ?_⟩⟩
  · rw [exec_compp, comppResponse_of_unloaded raw hcv, State.answer]
  · rw [exec_compp, comppResponse_of_tfUnset raw hcv htv, State.answer]
  · rw [eq_answer_of_exec_compp h]
    exact s.answer_sameBlock _
  · rw [comppResponse_congr_of_registers raw hcv htv ht hc]
    exact exec_compp raw t

/-- Settles O22: the balanced remainder of the statement is `wP`, and then its steps are those of `presD` and
`presResult`, the latter of type s64, so the pattern COMPP answers stands for it. -/
theorem comppComputesPressure : Obligations.ComppComputesPressure := by
  intro raw s hcv htv hd w
  have hw : w = wP := funext fun z => (wP_eq_bmod z).symm
  clear_value w
  subst hw
  intro a sq b1 b2 b3 c1 c2 c e d p0 n1 n p1 q e1 e2 p
  have hp : (patternP (s.pressureOf raw)).toInt = p := by
    rw [patternP_toInt, State.wP_pressureOf]
    rfl
  refine ⟨rfl, _, hp, by rw [pascals, hp], ?_⟩
  rw [exec_compp, comppResponse_of_divisor_ne_zero raw hcv htv hd, State.answer]

/-- Settles O26: no effect clears `tf_valid`; the last COMPT decides the block, and COMPP answers by the block, which
it leaves as it was. -/
theorem staleFineIsUsedAsIs : Obligations.StaleFineIsUsedAsIs := by
  refine ⟨fun i s t h hs => exec_keeps_tfValid h hs, fun r1 r2 q s s1 s2 s2' hs h1 h2 h2' => ?_,
    fun q q' s s1 h => ⟨_, ?_, exec_compp q' s⟩⟩
  · have hb := compt_after_compt_sameBlock hs h1 h2 h2'
    refine ⟨hb, _, exec_compp q s2, ?_⟩
    rw [comppResponse_congr q (sameVisible_of_sameBlock hb)]
    exact exec_compp q s2'
  · have hb : s1.sameBlock s := eq_answer_of_exec_compp h ▸ s.answer_sameBlock _
    rw [← comppResponse_congr q' (sameVisible_of_sameBlock hb)]
    exact exec_compp q' s1

/-- Settles O27: the dependence is that of every operation (O40); an error is the guard's of COMPT or one of the three
of COMPP, and either only answers. -/
theorem compensationFailuresAreDomainErrors : Obligations.CompensationFailuresAreDomainErrors := by
  intro i raw hi
  refine ⟨fun s t hb => ?_, fun s s' e h hr => ?_⟩
  · obtain ⟨r, s', t', hs, ht, hrs, hrt, hb'⟩ := responseDependsOnlyOnTheFourItems i s t hb
    exact ⟨r, s', t', hs, ht, hb', hrs, hrt⟩
  · obtain rfl | rfl := hi
    · obtain ⟨he, hb⟩ := compt_error h hr
      exact ⟨.inl he, hb⟩
    · exact compp_error h hr

end Sys2Proof.Machine
end

section
/-! PROOFS. The family of 60_exceptions: when an operation raises, and which error. `Raises` lists the causes of
R131 and R132; an operation that raises does nothing but answer (`exec_of_raises`), and it answers an error only when it
raises it (`responses_error_iff`). -/

namespace Sys2Proof.Machine

/-- The operation raises the error in the state: one constructor per cause and operation of 60_exceptions R131, R132,
and none for the two errors that are the host's (R133, R134). -/
inductive Raises : Instr → State → ErrorKind → Prop where
  | badDirection {dir cw : Word} {s : State} (hdir : 2 ≤ dir.toNat) :
      Raises (.cmdUnsup dir cw) s (.unsupportedCommand .badDirection)
  | reservedOp {i : Instr} {s : State} (hsel : 9 ≤ i.select.toNat) : Raises i s (.unsupportedCommand .reservedOp)
  | ldcalLoaded {B : CalBlock} {s : State} (hc : s.calValid = true) :
      Raises (.ldcal B) s (.domainError .calAlreadyLoaded)
  | comptUnloaded {raw : Raw} {s : State} (hc : s.calValid = false) :
      Raises (.compt raw) s (.domainError .calNotLoaded)
  | comppUnloaded {raw : Raw} {s : State} (hc : s.calValid = false) :
      Raises (.compp raw) s (.domainError .calNotLoaded)
  | comppTfUnset {raw : Raw} {s : State} (hc : s.calValid = true) (ht : s.tfValid = false) :
      Raises (.compp raw) s (.domainError .tFineUnset)
  | comppDivisorZero {raw : Raw} {s : State} (hc : s.calValid = true) (ht : s.tfValid = true) (hd : s.divisor = 0) :
      Raises (.compp raw) s (.domainError .zeroDivisor)

/-! ### An error is the whole effect -/

/-- The response can be read off the state an answer leaves. -/
theorem next_answer_inj {s : State} {r r' : Response} (h : (.next (s.answer r) : Answer) = .next (s.answer r')) :
    r = r' := by
  simpa using congrArg State.responses (Host.Outcome.next.inj h)

/-- An operation that answers an error has only answered: the two effects that write answer `Ok` (60_exceptions
R138). -/
theorem eq_answer_of_responses_error {i : Instr} {s t : State} {e : ErrorKind} (h : exec i s = .next t)
    (hr : t.responses = s.responses ++ [.error e]) : t = s.answer (.error e) := by
  obtain ⟨r, rfl⟩ | ⟨B, -, -, rfl⟩ | ⟨raw, x, y, -, -, rfl, -⟩ := exec_cases h
  · have hre : r = .error e := by simpa using hr
    rw [hre]
  · simp at hr
  · simp at hr

/-! ### When each operation raises -/

/-- CMD raises BadDirection for a direction of at least 2, and nothing else (40_codec R84). -/
theorem badDirection_of_classify_error {dir cw : Word} {s : State} {e : ErrorKind}
    (h : classify dir cw s = .next (s.answer (.error e))) :
    2 ≤ dir.toNat ∧ e = .unsupportedCommand .badDirection := by
  have hr := next_answer_inj ((classify_eq_answer dir cw s).symm.trans h)
  split at hr
  next => cases hr
  next h0 =>
    split at hr
    next => cases hr
    next h1 => exact ⟨by omega, (Response.error.inj hr).symm⟩

/-- COMPP raises for the first of its causes that holds (60_exceptions R137). -/
theorem raises_of_comppResponse_error {raw : Raw} {s : State} {e : ErrorKind} (h : comppResponse raw s = .error e) :
    Raises (.compp raw) s e := by
  cases hc : s.calValid with
  | false =>
    cases (comppResponse_of_unloaded raw hc).symm.trans h
    exact .comppUnloaded hc
  | true =>
    cases ht : s.tfValid with
    | false =>
      cases (comppResponse_of_tfUnset raw hc ht).symm.trans h
      exact .comppTfUnset hc ht
    | true =>
      by_cases hd : s.divisor = 0
      · cases (comppResponse_of_divisor_zero raw hc ht hd).symm.trans h
        exact .comppDivisorZero hc ht hd
      · cases (comppResponse_of_divisor_ne_zero raw hc ht hd).symm.trans h

/-- An operation with a reserved select answers ReservedOp (30_encoding R70). -/
theorem exec_of_select_reserved {i : Instr} (h : 9 ≤ i.select.toNat) (s : State) :
    exec i s = .next (s.answer (.error (.unsupportedCommand .reservedOp))) := by
  cases i
  case reserved9 | reservedA | reservedB | reservedC | reservedD | reservedE | reservedF => rfl
  all_goals simp [Instr.select] at h

/-- An operation that answers an error had one of the causes for it. -/
theorem raises_of_exec {i : Instr} {s : State} {e : ErrorKind} (h : exec i s = .next (s.answer (.error e))) :
    Raises i s e := by
  cases i
  case cmdUnsup dir cw =>
    obtain ⟨hdir, rfl⟩ := badDirection_of_classify_error h
    exact .badDirection hdir
  case ldcal B =>
    cases hc : s.calValid with
    | false => simpa using congrArg State.responses (Host.Outcome.next.inj ((exec_ldcal_unloaded B hc).symm.trans h))
    | true =>
      cases next_answer_inj ((exec_ldcal_loaded B hc).symm.trans h)
      exact .ldcalLoaded hc
  case compt raw =>
    cases hc : s.calValid with
    | false =>
      cases next_answer_inj ((exec_compt_unloaded raw hc).symm.trans h)
      exact .comptUnloaded hc
    | true => simpa using congrArg State.responses (Host.Outcome.next.inj ((exec_compt_loaded raw hc).symm.trans h))
  case compp raw => exact raises_of_comppResponse_error (next_answer_inj ((exec_compp raw s).symm.trans h))
  case reserved9 | reservedA | reservedB | reservedC | reservedD | reservedE | reservedF =>
    cases next_answer_inj h
    exact .reservedOp (by decide)
  case enc | dec | cmdRd | cmdWr | bsrd | bswr | mkraw => cases next_answer_inj h

/-- An operation with a cause for an error answers it. -/
theorem exec_of_raises {i : Instr} {s : State} {e : ErrorKind} (h : Raises i s e) :
    exec i s = .next (s.answer (.error e)) := by
  cases h with
  | badDirection hdir => exact classify_badDirection hdir _ s
  | reservedOp hsel => exact exec_of_select_reserved hsel s
  | ldcalLoaded hc => exact exec_ldcal_loaded _ hc
  | comptUnloaded hc => exact exec_compt_unloaded _ hc
  | comppUnloaded hc => rw [exec_compp, comppResponse_of_unloaded _ hc]
  | comppTfUnset hc ht => rw [exec_compp, comppResponse_of_tfUnset _ hc ht]
  | comppDivisorZero hc ht hd => rw [exec_compp, comppResponse_of_divisor_zero _ hc ht hd]

/-- The response an operation adds is an error exactly when it raises it. -/
theorem responses_error_iff {i : Instr} {s t : State} (h : exec i s = .next t) (e : ErrorKind) :
    t.responses = s.responses ++ [.error e] ↔ Raises i s e := by
  refine ⟨fun hr => raises_of_exec ?_, fun he => ?_⟩
  · rw [h, eq_answer_of_responses_error h hr]
  · cases h.symm.trans (exec_of_raises he)
    rfl

/-- BadDirection is the select of CMD (60_exceptions R132). -/
theorem Raises.select_of_badDirection {i : Instr} {s : State}
    (h : Raises i s (.unsupportedCommand .badDirection)) : i.select = 0x2 := by
  cases h
  rfl

/-- ReservedOp is a reserved select (60_exceptions R132). -/
theorem Raises.select_of_reservedOp {i : Instr} {s : State}
    (h : Raises i s (.unsupportedCommand .reservedOp)) : 9 ≤ i.select.toNat := by
  cases h
  assumption

/-- No operation raises what the bus transport and the buffers of the host report (60_exceptions R133, R134). -/
theorem Raises.ne_host {i : Instr} {s : State} {e : ErrorKind} (h : Raises i s e) :
    e ≠ .transportError ∧ e ≠ .bufferFault := by
  cases h <;> exact ⟨nofun, nofun⟩

/-! ### The request that selects an operation -/

/-- The three rows of CMD have one select. -/
theorem select_decodeCmd (dir cw : Word) : (decodeCmd dir cw).select = 0x2 := by
  unfold decodeCmd
  split_ifs <;> rfl

/-- Decoding keeps the select (30_encoding R66). -/
theorem select_decode (p : Request) : (decode p).select = p.op := by
  unfold decode
  split
  case h_3 hop => exact (select_decodeCmd p.dir p.cw).trans hop.symm
  case h_16 =>
    -- the arm without a pattern: 0xF is the one select left
    generalize p.op = op at *
    revert op
    decide
  all_goals
    symm
    assumption

/-! ### The four causes of DomainError (60_exceptions R131) -/

/-- COMPT and COMPP raise CalNotLoaded, COMPP whatever `tf_valid` (42_compensation R111, R117). -/
theorem raises_calNotLoaded_iff {i : Instr} {s : State} : Raises i s (.domainError .calNotLoaded) ↔
    s.calValid = false ∧ ∃ raw, i = .compt raw ∨ i = .compp raw := by
  constructor
  · intro h
    cases h with
    | comptUnloaded hc => exact ⟨hc, _, .inl rfl⟩
    | comppUnloaded hc => exact ⟨hc, _, .inr rfl⟩
  · rintro ⟨hc, raw, rfl | rfl⟩
    · exact .comptUnloaded hc
    · exact .comppUnloaded hc

/-- COMPP raises TFineUnset behind its first guard (42_compensation R117). -/
theorem raises_tFineUnset_iff {i : Instr} {s : State} : Raises i s (.domainError .tFineUnset) ↔
    s.calValid = true ∧ s.tfValid = false ∧ ∃ raw, i = .compp raw := by
  constructor
  · intro h
    cases h with
    | comppTfUnset hc ht => exact ⟨hc, ht, _, rfl⟩
  · rintro ⟨hc, ht, raw, rfl⟩
    exact .comppTfUnset hc ht

/-- COMPP raises ZeroDivisor behind both guards (42_compensation R119). -/
theorem raises_zeroDivisor_iff {i : Instr} {s : State} : Raises i s (.domainError .zeroDivisor) ↔
    s.calValid = true ∧ s.tfValid = true ∧ s.divisor = 0 ∧ ∃ raw, i = .compp raw := by
  constructor
  · intro h
    cases h with
    | comppDivisorZero hc ht hd => exact ⟨hc, ht, hd, _, rfl⟩
  · rintro ⟨hc, ht, hd, raw, rfl⟩
    exact .comppDivisorZero hc ht hd

/-- LDCAL raises CalAlreadyLoaded (41_calibration_and_raw R101). -/
theorem raises_calAlreadyLoaded_iff {i : Instr} {s : State} : Raises i s (.domainError .calAlreadyLoaded) ↔
    s.calValid = true ∧ ∃ B, i = .ldcal B := by
  constructor
  · intro h
    cases h with
    | ldcalLoaded hc => exact ⟨hc, _, rfl⟩
  · rintro ⟨hc, B, rfl⟩
    exact .ldcalLoaded hc

/-! ### The obligations -/

/-- Settles O30: an answered error is the whole effect, and the ports of an error are zero by their definition. -/
theorem errorsChangeNothing : Obligations.ErrorsChangeNothing :=
  fun _ _ _ _ h hr => ⟨eq_answer_of_responses_error h hr, rfl⟩

/-- Settles O33: waiting and reset add no response, a request adds one, and nothing raises a host error. -/
theorem hostErrorsAreNeverRaised : Obligations.HostErrorsAreNeverRaised := by
  intro s t h
  obtain ⟨-, rfl⟩ | ⟨es, -, rfl⟩ | ⟨p, es, -, hexec⟩ := step_cases h
  · exact ⟨[], by simp⟩
  · exact ⟨[], by simp⟩
  · obtain ⟨t', r, ht', hr⟩ := exec_answers_once (decode p) { s with inputs := es }
    cases hexec.symm.trans ht'
    have hraised : ∀ e, Response.error e ∈ [r] → Raises (decode p) { s with inputs := es } e := fun e he =>
      (responses_error_iff hexec e).mp (List.mem_singleton.mp he ▸ hr)
    exact ⟨[r], hr, fun he => (hraised _ he).ne_host.1 rfl, fun he => (hraised _ he).ne_host.2 rfl⟩

/-- Settles O34: BadDirection is raised by the one row of CMD that select 0x2 reaches with such a direction, ReservedOp
by the selects from 9 on. -/
theorem unsupportedCommandHasTwoCauses : Obligations.UnsupportedCommandHasTwoCauses := by
  intro p s
  refine ⟨⟨fun h => ?_, fun ⟨hop, hdir⟩ => ?_⟩, ⟨fun h => ?_, fun hop => exec_decode_of_reserved hop s⟩,
    fun c => ?_⟩
  · have hop : p.op = 0x2 := select_decode p ▸ (raises_of_exec h).select_of_badDirection
    rw [exec_decode_of_cmd hop] at h
    exact ⟨hop, (badDirection_of_classify_error h).1⟩
  · rw [exec_decode_of_cmd hop]
    exact classify_badDirection hdir p.cw s
  · exact select_decode p ▸ (raises_of_exec h).select_of_reservedOp
  · cases c with
    | badDirection => exact ⟨1, rfl⟩
    | reservedOp => exact ⟨2, rfl⟩

/-- Settles O35: the added response is the error exactly when the operation raises it. -/
theorem domainErrorHasFourCauses : Obligations.DomainErrorHasFourCauses := fun _ _ _ h =>
  ⟨(responses_error_iff h _).trans raises_calNotLoaded_iff, (responses_error_iff h _).trans raises_tFineUnset_iff,
    (responses_error_iff h _).trans raises_zeroDivisor_iff, (responses_error_iff h _).trans raises_calAlreadyLoaded_iff⟩

end Sys2Proof.Machine
end

section
/-! PROOFS. The temperature computation: what the registers of `CAL` stand for, and the ranges and exactness of the
steps. Of the wraps of 42_compensation R112 only those of the three products can act: the other steps never leave the
signed 32-bit range. -/

namespace Sys2Proof.Machine

/-! ### Coefficients (10_state R22) -/

/-- T1 and P1 stand for the unsigned value of their register. -/
theorem State.coef_of_unsigned {i : Fin 12} (hi : i = 0 ∨ i = 3) (s : State) : s.coef i = (s.cal[i]).toNat :=
  if_pos hi

/-- The other ten coefficients stand for the two's-complement value of their register. -/
theorem State.coef_of_signed {i : Fin 12} (h0 : i ≠ 0) (h3 : i ≠ 3) (s : State) : s.coef i = (s.cal[i]).toInt := by
  rw [State.coef, coefValue, if_neg (by simp [h0, h3]), s16_toInt]

/-- The range of T1 and P1. -/
theorem State.coef_range_of_unsigned {i : Fin 12} (hi : i = 0 ∨ i = 3) (s : State) :
    0 ≤ s.coef i ∧ s.coef i ≤ 65535 := by
  have := (s.cal[i]).isLt
  rw [s.coef_of_unsigned hi]
  omega

/-- The range of a signed 16-bit pattern. -/
theorem coef_toInt_range (u : Coef) : -32768 ≤ u.toInt ∧ u.toInt ≤ 32767 := by
  have hlo := u.le_toInt
  have hhi := u.toInt_lt
  norm_num at hlo hhi
  omega

/-- The range of the other ten coefficients. -/
theorem State.coef_range_of_signed {i : Fin 12} (h0 : i ≠ 0) (h3 : i ≠ 3) (s : State) :
    -32768 ≤ s.coef i ∧ s.coef i ≤ 32767 := by
  rw [s.coef_of_signed h0 h3]
  exact coef_toInt_range _

/-! ### The temperature computation (42_compensation R112) -/

/-- A value of type s32 is not changed by the wrap. -/
theorem wT_of_fitsS {z : Int} (h : fitsS 32 z) : wT z = z :=
  wT_of_fits h.1 h.2

section
variable {raw t1 : Int} (hraw : 0 ≤ raw ∧ raw ≤ 1048575) (ht1 : 0 ≤ t1 ∧ t1 ≤ 65535)

include ht1 in
/-- `x2` never wraps. -/
theorem shlT_one_of_range : shlT t1 1 = t1 * 2 ^ 1 := by
  rw [shlT]
  exact wT_of_fits (by omega) (by omega)

include hraw ht1

/-- `x3` never wraps. -/
theorem tempX3_of_range : tempX3 raw t1 = raw / 2 ^ 3 - t1 * 2 ^ 1 := by
  rw [tempX3, shlT_one_of_range ht1, subT, asr]
  exact wT_of_fits (by omega) (by omega)

/-- `y1` never wraps. -/
theorem tempY1_of_range : tempY1 raw t1 = raw / 2 ^ 4 - t1 := by
  rw [tempY1, subT, asr]
  exact wT_of_fits (by omega) (by omega)

end

/-- `var1` lies in the signed 21-bit range: it is a wrapped product, shifted by 11. -/
theorem tempVar1_range (raw t1 t2 : Int) : -1048576 ≤ tempVar1 raw t1 t2 ∧ tempVar1 raw t1 t2 ≤ 1048575 := by
  have := wT_range (tempX3 raw t1 * t2)
  rw [tempVar1, mulT, asr]
  omega

/-- `y3` lies in the signed 20-bit range: it is a wrapped product, shifted by 12. -/
theorem tempY3_range (raw t1 : Int) : -524288 ≤ tempY3 raw t1 ∧ tempY3 raw t1 ≤ 524287 := by
  have := wT_range (tempY1 raw t1 * tempY1 raw t1)
  rw [tempY3, mulT, asr]
  omega

/-- `var2` lies in the signed 18-bit range: it is a wrapped product, shifted by 14. -/
theorem tempVar2_range (raw t1 t3 : Int) : -131072 ≤ tempVar2 raw t1 t3 ∧ tempVar2 raw t1 t3 ≤ 131071 := by
  have := wT_range (tempY3 raw t1 * t3)
  rw [tempVar2, mulT, asr]
  omega

/-- The last sum never wraps. -/
theorem tempFine_eq (raw t1 t2 t3 : Int) : tempFine raw t1 t2 t3 = tempVar1 raw t1 t2 + tempVar2 raw t1 t3 := by
  have := tempVar1_range raw t1 t2
  have := tempVar2_range raw t1 t3
  rw [tempFine, addT]
  exact wT_of_fits (by omega) (by omega)

/-- What a COMPT can leave in `TF`, whatever the sample and the coefficients. -/
theorem tempFine_range (raw t1 t2 t3 : Int) :
    -1179648 ≤ tempFine raw t1 t2 t3 ∧ tempFine raw t1 t2 t3 ≤ 1179646 := by
  have := tempVar1_range raw t1 t2
  have := tempVar2_range raw t1 t3
  rw [tempFine_eq]
  omega

/-- For a `TF` that COMPT computes, `T` never wraps. -/
theorem tempResult_of_range {tf : Int} (h : -1179648 ≤ tf ∧ tf ≤ 1179646) :
    tempResult tf = (tf * 5 + 128) / 2 ^ 8 := by
  rw [tempResult, mulT, wT_of_fits (by omega) (by omega), addT, wT_of_fits (by omega) (by omega), asr]

/-- A `TF` that COMPT writes is read back as the integer it computed. -/
theorem toInt_patternT_fineOf (s : State) (raw : Raw) : (patternT (s.fineOf raw)).toInt = s.fineOf raw := by
  rw [patternT_toInt, s.wT_fineOf]

/-! ### Exactness (42_compensation R114) -/

section
variable {raw t1 t2 t3 : Int} (hraw : 0 ≤ raw ∧ raw ≤ 1048575) (ht1 : 0 ≤ t1 ∧ t1 ≤ 65535)
include hraw ht1

/-- Where no product wraps, `tf` is the document's. -/
theorem tempFine_of_tempExact (h : TempExact raw t1 t2 t3) : tempFine raw t1 t2 t3 = docFine raw t1 t2 t3 := by
  obtain ⟨hx4, hy2, hy4⟩ := h
  have hvar1 : tempVar1 raw t1 t2 = docX4 raw t1 t2 / 2 ^ 11 := by
    rw [tempVar1, tempX3_of_range hraw ht1, mulT, pow_one, ← docX4, wT_of_fitsS hx4, asr]
  have hy3 : tempY3 raw t1 = docY2 raw t1 / 2 ^ 12 := by
    rw [tempY3, tempY1_of_range hraw ht1, mulT, ← docY2, wT_of_fitsS hy2, asr]
  have hvar2 : tempVar2 raw t1 t3 = docY4 raw t1 t3 / 2 ^ 14 := by
    rw [tempVar2, hy3, mulT, ← docY4, wT_of_fitsS hy4, asr]
  rw [tempFine_eq, hvar1, hvar2, docFine]

/-- Where no product wraps, `T` is the document's. -/
theorem tempResult_of_tempExact (h : TempExact raw t1 t2 t3) :
    tempResult (tempFine raw t1 t2 t3) = docTemp raw t1 t2 t3 := by
  rw [tempResult_of_range (tempFine_range raw t1 t2 t3), tempFine_of_tempExact hraw ht1 h, docTemp]

end

/-- A product of two factors with a small product of absolute values fits. -/
theorem fitsS_mul_of_abs_mul_lt {a b : Int} (h : |a| * |b| < 2 ^ 31) : fitsS 32 (a * b) := by
  rw [← abs_mul, abs_lt] at h
  constructor <;> omega

/-- The three bounds of 42_compensation section 2 keep the three products in the signed 32-bit range. -/
theorem tempExact_of_small {raw t1 t2 t3 : Int} (hx : |raw / 2 ^ 3 - 2 * t1| * |t2| < 2 ^ 31)
    (hy : |raw / 2 ^ 4 - t1| ≤ 46340) (hz : (raw / 2 ^ 4 - t1) * (raw / 2 ^ 4 - t1) / 2 ^ 12 * |t3| < 2 ^ 31) :
    TempExact raw t1 t2 t3 := by
  have hsq : 0 ≤ docY2 raw t1 := mul_self_nonneg _
  refine ⟨?_, ?_, ?_⟩
  · rw [mul_comm 2 t1] at hx
    exact fitsS_mul_of_abs_mul_lt hx
  · have hle : docY2 raw t1 ≤ 46340 * 46340 := by
      rw [docY2, ← abs_mul_abs_self]
      exact mul_le_mul hy hy (abs_nonneg _) (by norm_num)
    constructor <;> omega
  · refine fitsS_mul_of_abs_mul_lt ?_
    rwa [abs_of_nonneg (by omega)]

/-! ### The obligations -/

/-- Settles O14: the two cases of `coefValue`. -/
theorem coefficientsReadBySignedness : Obligations.CoefficientsReadBySignedness := fun s _ =>
  ⟨fun hi => ⟨s.coef_of_unsigned hi, s.coef_range_of_unsigned hi⟩,
    fun h0 h3 => ⟨s.coef_of_signed h0 h3, s.coef_range_of_signed h0 h3⟩⟩

/-- Settles O18: the named steps of the model are those of the statement, with the wraps left out that never act. -/
theorem temperatureStepsStayInRange : Obligations.TemperatureStepsStayInRange := by
  intro raw s w
  have hw : w = wT := funext fun z => (wT_eq_bmod z).symm
  clear_value w
  subst hw
  have hraw := rawValue_range raw
  have ht1 := s.coef_range_of_unsigned (.inl rfl : (0 : Fin 12) = 0 ∨ _)
  have hx1 : 0 ≤ rawValue raw / 2 ^ 3 ∧ rawValue raw / 2 ^ 3 ≤ 131071 := by omega
  have hx2 : 0 ≤ s.coef 0 * 2 ^ 1 ∧ s.coef 0 * 2 ^ 1 ≤ 131070 := by omega
  have hx3 : -131070 ≤ rawValue raw / 2 ^ 3 - s.coef 0 * 2 ^ 1 ∧
      rawValue raw / 2 ^ 3 - s.coef 0 * 2 ^ 1 ≤ 131071 := by omega
  have hy1 : -65535 ≤ rawValue raw / 2 ^ 4 - s.coef 0 ∧ rawValue raw / 2 ^ 4 - s.coef 0 ≤ 65535 := by omega
  have hx2w : wT (s.coef 0 * 2 ^ 1) = s.coef 0 * 2 ^ 1 := shlT_one_of_range ht1
  have hx3w : wT (rawValue raw / 2 ^ 3 - s.coef 0 * 2 ^ 1) = rawValue raw / 2 ^ 3 - s.coef 0 * 2 ^ 1 :=
    wT_of_fits (by omega) (by omega)
  have hy1w : wT (rawValue raw / 2 ^ 4 - s.coef 0) = rawValue raw / 2 ^ 4 - s.coef 0 :=
    wT_of_fits (by omega) (by omega)
  intro x1 x2 x3 var1 y1 y3 var2 tf
  have hvar1 : tempVar1 (rawValue raw) (s.coef 0) (s.coef 1) = var1 := by
    rw [tempVar1, tempX3_of_range hraw ht1, mulT, asr]
    rfl
  have hy3 : tempY3 (rawValue raw) (s.coef 0) = y3 := by
    rw [tempY3, tempY1_of_range hraw ht1, mulT, asr]
    rfl
  have hvar2 : tempVar2 (rawValue raw) (s.coef 0) (s.coef 2) = var2 := by rw [tempVar2, hy3, mulT, asr]
  have htf : tempFine (rawValue raw) (s.coef 0) (s.coef 1) (s.coef 2) = tf := by rw [tempFine_eq, hvar1, hvar2]
  have htfRange : -1179648 ≤ tf ∧ tf ≤ 1179646 := htf ▸ tempFine_range _ _ _ _
  exact ⟨hx1, hx2, hx3, hvar1 ▸ tempVar1_range _ _ _, hy1, hy3 ▸ tempY3_range _ _, hvar2 ▸ tempVar2_range _ _ _,
    htfRange, hx2w, hx3w, hy1w, wT_of_fits (by omega) (by omega), wT_of_fits (by omega) (by omega),
    wT_of_fits (by omega) (by omega), ⟨by omega, by omega⟩, htf⟩

/-- Settles O19: where the products fit, both patterns COMPT leaves stand for the document's values. -/
theorem temperatureIsExactWithoutOverflow : Obligations.TemperatureIsExactWithoutOverflow := by
  intro raw s hcv h
  have hraw := rawValue_range raw
  have ht1 := s.coef_range_of_unsigned (.inl rfl : (0 : Fin 12) = 0 ∨ _)
  refine ⟨_, _, ?_, ?_, exec_compt_loaded raw hcv⟩
  · rw [toInt_patternT_fineOf]
    exact tempFine_of_tempExact hraw ht1 h
  · rw [patternT_toInt, wT_tempResult]
    exact tempResult_of_tempExact hraw ht1 h

/-- Settles O20: the bounds imply `TempExact`, and then O19 gives the answer. -/
theorem smallProductsAreTempExact : Obligations.SmallProductsAreTempExact := by
  intro raw s hx hy hz
  have h := tempExact_of_small hx hy hz
  exact ⟨h, fun hcv => temperatureIsExactWithoutOverflow raw s hcv h⟩

end Sys2Proof.Machine
end

section
/-! PROOFS. The machine as a whole: what a step keeps, what each operation leaves alone, and what a run leaves behind.
The statements about runs are inductions over the host's list of events, one event per step. -/

namespace Sys2Proof.Machine

/-! ### What an operation and a step keep -/

/-- Every operation keeps the invariant: COMPT writes a `TF` in the range behind the guard on `cal_valid`, and nothing
clears `cal_valid` (10_state R27, 42_compensation R112). -/
theorem exec_keeps_inv {i : Instr} {s t : State} (hs : s.Inv) (h : exec i s = .next t) : t.Inv := by
  obtain ⟨r, rfl⟩ | ⟨B, -, -, rfl⟩ | ⟨raw, x, y, -, hcv, rfl, rfl⟩ := exec_cases h
  · exact hs
  · exact fun htv => ⟨rfl, (hs htv).2⟩
  · intro _
    rw [State.tfValue, State.afterCompt_tf, toInt_patternT_fineOf]
    exact ⟨hcv, tempFine_range _ _ _ _⟩

/-- An operation that writes on no path leaves the four items (10_state R20). -/
theorem exec_sameBlock_of_writesNothing {i : Instr} (hi : writesNothing i = true) {s t : State}
    (h : exec i s = .next t) : t.sameBlock s := by
  obtain ⟨r, rfl⟩ | ⟨B, rfl, -⟩ | ⟨raw, x, y, rfl, -⟩ := exec_cases h
  · exact s.answer_sameBlock r
  · cases hi
  · cases hi

/-- Every operation leaves the session number alone. -/
theorem exec_session {i : Instr} {s t : State} (h : exec i s = .next t) : t.session = s.session := by
  obtain ⟨r, rfl⟩ | ⟨B, -, -, rfl⟩ | ⟨raw, x, y, -, -, rfl, -⟩ := exec_cases h
  · rfl
  · rfl
  · rfl

/-- LDCAL leaves `TF` and `tf_valid` alone (41_calibration_and_raw R101). -/
theorem ldcal_keeps_tf {B : CalBlock} {s t : State} (h : exec (.ldcal B) s = .next t) :
    t.tf = s.tf ∧ t.tfValid = s.tfValid := by
  obtain ⟨r, rfl⟩ | ⟨B, -, -, rfl⟩ | ⟨raw, x, y, hi, -⟩ := exec_cases h
  · exact ⟨rfl, rfl⟩
  · exact ⟨rfl, rfl⟩
  · cases hi

/-- COMPT leaves `CAL` and `cal_valid` alone (42_compensation R113). -/
theorem compt_keeps_cal {raw : Raw} {s t : State} (h : exec (.compt raw) s = .next t) :
    t.cal = s.cal ∧ t.calValid = s.calValid := by
  obtain ⟨r, rfl⟩ | ⟨B, hi, -⟩ | ⟨raw, x, y, -, -, rfl, -⟩ := exec_cases h
  · exact ⟨rfl, rfl⟩
  · cases hi
  · exact ⟨rfl, rfl⟩

/-! ### Runs over the host's list of events -/

/-- A step with an event presented takes that event, and answers once if it is a request (70_reset R167, R168). -/
theorem step_takes_event {s : State} {e : HostEvent} {es : List HostEvent} (h : s.inputs = e :: es) :
    ∃ (t : State) (rs : List Response), step s = .next t ∧ t.inputs = es ∧ t.responses = s.responses ++ rs ∧
      rs.length = countRequests [e] := by
  cases e with
  | reset => exact ⟨_, [], step_of_inputs_reset h, rfl, by simp, rfl⟩
  | request p =>
    obtain ⟨t, r, ht, hr⟩ := exec_answers_once (decode p) { s with inputs := es }
    exact ⟨t, [r], (step_of_inputs_request h).trans ht, exec_inputs ht, hr, rfl⟩

/-- The requests of a list are those of its first event and those of the rest. -/
theorem countRequests_cons (e : HostEvent) (es : List HostEvent) :
    countRequests (e :: es) = countRequests [e] + countRequests es :=
  List.countP_append (l₁ := [e])

/-- A run of as many steps as events uses the list up and answers every request once. -/
theorem run_takes_events {es : List HostEvent} {s : State} (h : s.inputs = es) :
    ∃ (t : State) (rs : List Response), Host.Core.run core es.length s = .next t ∧ t.inputs = [] ∧
      t.responses = s.responses ++ rs ∧ rs.length = countRequests es := by
  induction es generalizing s with
  | nil => exact ⟨s, [], rfl, h, by simp, rfl⟩
  | cons e es ih =>
    obtain ⟨u, rs, hu, hin, hrs, hlen⟩ := step_takes_event h
    obtain ⟨t, rs', ht, hnil, hrs', hlen'⟩ := ih hin
    refine ⟨t, rs ++ rs', (run_succ_of_step hu _).trans ht, hnil, by rw [hrs', hrs, List.append_assoc], ?_⟩
    rw [List.length_append, hlen, hlen', ← countRequests_cons]

/-! ### What a session's operations leave behind -/

/-- The first LDCAL of a longer session is that of its beginning, or else the last operation if it is one. -/
theorem firstLoad_append (h : List Instr) (i : Instr) :
    firstLoad (h ++ [i]) = (firstLoad h).or (firstLoad [i]) := by
  fun_induction firstLoad h with
  | case1 => rfl
  | case2 B rest => rfl
  | case3 j rest hj ih => rw [List.cons_append, firstLoad, ih]; exact hj

/-- An operation other than LDCAL presented last leaves the first LDCAL. -/
theorem firstLoad_append_of_ne (h : List Instr) {i : Instr} (hi : ∀ B, i ≠ .ldcal B) :
    firstLoad (h ++ [i]) = firstLoad h := by
  rw [firstLoad_append, firstLoad, firstLoad, Option.or_none]
  exact hi

/-- A COMPT presented last has the last sample. -/
theorem lastSample_append_compt (last : Option Raw) (h : List Instr) (raw : Raw) :
    lastSample last (h ++ [.compt raw]) = some raw := by
  fun_induction lastSample last h with
  | case1 last => rfl
  | case2 last x rest ih => exact ih
  | case3 last j rest hj ih => rw [List.cons_append, lastSample, ih]; exact hj

/-- Any other operation presented last leaves the last sample. -/
theorem lastSample_append_of_ne (last : Option Raw) (h : List Instr) {i : Instr} (hi : ∀ raw, i ≠ .compt raw) :
    lastSample last (h ++ [i]) = lastSample last h := by
  fun_induction lastSample last h with
  | case1 last => rw [List.nil_append, lastSample, lastSample]; exact hi
  | case2 last x rest ih => exact ih
  | case3 last j rest hj ih => rw [List.cons_append, lastSample, ih]; exact hj

/-- Without an LDCAL no COMPT has succeeded. -/
theorem lastGoodSample_of_firstLoad_none {h : List Instr} (hload : firstLoad h = none) : lastGoodSample h = none := by
  fun_induction lastGoodSample h with
  | case1 => rfl
  | case2 B rest => cases hload
  | case3 j rest hj ih => rw [firstLoad] at hload; exact ih hload; exact hj

/-- A COMPT presented last succeeds exactly after an LDCAL. -/
theorem lastGoodSample_append_compt (h : List Instr) (raw : Raw) :
    lastGoodSample (h ++ [.compt raw]) = (firstLoad h).map fun _ => raw := by
  fun_induction firstLoad h with
  | case1 => rfl
  | case2 B rest => exact lastSample_append_compt none rest raw
  | case3 j rest hj ih => rw [List.cons_append, lastGoodSample, ih]; exact hj

/-- Any other operation presented last leaves the last sample that succeeded. -/
theorem lastGoodSample_append_of_ne (h : List Instr) {i : Instr} (hi : ∀ raw, i ≠ .compt raw) :
    lastGoodSample (h ++ [i]) = lastGoodSample h := by
  fun_induction lastGoodSample h with
  | case1 => cases i <;> rfl
  | case2 B rest => exact lastSample_append_of_ne none rest hi
  | case3 j rest hj ih => rw [List.cons_append, lastGoodSample, ih]; exact hj

/-- The `TF` that COMPT of a sample computes with the coefficients of a block (42_compensation R112). -/
def fineOfBlock (B : CalBlock) (raw : Raw) : Int :=
  tempFine (rawValue raw) (coefValue 0 (calOfBlock B)[0]) (coefValue 1 (calOfBlock B)[1])
    (coefValue 2 (calOfBlock B)[2])

/-- What COMPT computes when `CAL` holds a block. -/
theorem State.fineOf_eq_fineOfBlock {s : State} {B : CalBlock} (h : s.cal = calOfBlock B) (raw : Raw) :
    s.fineOf raw = fineOfBlock B raw := by
  rw [State.fineOf, State.coef, State.coef, State.coef, h]
  rfl

/-- The state holds what the operations of the session, oldest first, leave behind (10_state R25, R26). -/
structure Remembers (h : List Instr) (s : State) : Prop where
  calValid : s.calValid = (firstLoad h).isSome
  tfValid : s.tfValid = (lastGoodSample h).isSome
  cal : ∀ B, firstLoad h = some B → s.cal = calOfBlock B
  tf : ∀ B raw, firstLoad h = some B → lastGoodSample h = some raw → s.tf = patternT (fineOfBlock B raw)

/-- A session in which nothing was presented leaves both flags 0. -/
theorem remembers_nil {s : State} (hcv : s.calValid = false) (htv : s.tfValid = false) : Remembers [] s :=
  ⟨hcv, htv, nofun, nofun⟩

/-- What is remembered does not stand in the host's list. -/
theorem Remembers.withInputs {h : List Instr} {s : State} (hs : Remembers h s) (es : List HostEvent) :
    Remembers h { s with inputs := es } := by
  obtain ⟨hcv, htv, hcal, htf⟩ := hs
  exact ⟨hcv, htv, hcal, htf⟩

/-- An operation that loads nothing and computes no `TF` adds nothing to what is remembered. -/
theorem Remembers.append_of_answer {h : List Instr} {s : State} (hs : Remembers h s) {i : Instr}
    (hload : firstLoad (h ++ [i]) = firstLoad h) (hsample : lastGoodSample (h ++ [i]) = lastGoodSample h)
    (r : Response) : Remembers (h ++ [i]) (s.answer r) := by
  obtain ⟨hcv, htv, hcal, htf⟩ := hs
  rw [← hload] at hcv hcal htf
  rw [← hsample] at htv htf
  exact ⟨hcv, htv, hcal, htf⟩

/-- LDCAL is remembered if it is the first (10_state R23). -/
theorem Remembers.append_ldcal {h : List Instr} {s t : State} (hs : Remembers h s) {B : CalBlock}
    (ht : exec (.ldcal B) s = .next t) : Remembers (h ++ [.ldcal B]) t := by
  have hload := firstLoad_append h (.ldcal B)
  have hsample := lastGoodSample_append_of_ne h (i := .ldcal B) nofun
  have hcv := hs.calValid
  cases hl : firstLoad h with
  | none =>
    rw [hl] at hcv hload
    have hnone := hsample.trans (lastGoodSample_of_firstLoad_none hl)
    cases (exec_ldcal_unloaded B hcv).symm.trans ht
    refine ⟨by rw [hload]; rfl, hs.tfValid.trans (hsample ▸ rfl), fun B' hB' => ?_, fun B' raw _ hraw => ?_⟩
    · cases hload.symm.trans hB'
      rfl
    · cases hnone.symm.trans hraw
  | some B₀ =>
    rw [hl] at hcv hload
    cases (exec_ldcal_loaded B hcv).symm.trans ht
    exact hs.append_of_answer (hload.trans hl.symm) hsample _

/-- COMPT is remembered after an LDCAL, and replaces the sample before it (10_state R26, 42_compensation R111). -/
theorem Remembers.append_compt {h : List Instr} {s t : State} (hs : Remembers h s) {raw : Raw}
    (ht : exec (.compt raw) s = .next t) : Remembers (h ++ [.compt raw]) t := by
  have hload := firstLoad_append_of_ne h (i := .compt raw) nofun
  have hsample := lastGoodSample_append_compt h raw
  have hcv := hs.calValid
  cases hl : firstLoad h with
  | none =>
    rw [hl] at hcv hsample
    cases (exec_compt_unloaded raw hcv).symm.trans ht
    exact hs.append_of_answer hload (hsample.trans (lastGoodSample_of_firstLoad_none hl).symm) _
  | some B =>
    rw [hl] at hcv hsample hload
    obtain rfl := eq_afterCompt_of_exec hcv ht
    refine ⟨by rw [hload]; exact hcv, by rw [hsample]; rfl, fun B' hB' => ?_, fun B' raw' hB' hraw' => ?_⟩
    · exact hs.cal B' (hl.trans (hload.symm.trans hB'))
    · cases hload.symm.trans hB'
      cases hsample.symm.trans hraw'
      rw [State.afterCompt_tf, State.fineOf_eq_fineOfBlock (hs.cal B hl)]

/-- Every operation is remembered. -/
theorem Remembers.append_of_exec {h : List Instr} {s t : State} (hs : Remembers h s) {i : Instr}
    (ht : exec i s = .next t) : Remembers (h ++ [i]) t := by
  by_cases hL : ∃ B, i = .ldcal B
  · obtain ⟨B, rfl⟩ := hL
    exact hs.append_ldcal ht
  by_cases hT : ∃ raw, i = .compt raw
  · obtain ⟨raw, rfl⟩ := hT
    exact hs.append_compt ht
  obtain ⟨r, rfl⟩ | ⟨B, hi, -⟩ | ⟨raw, x, y, hi, -⟩ := exec_cases ht
  · exact hs.append_of_answer (firstLoad_append_of_ne h fun B hi => hL ⟨B, hi⟩)
      (lastGoodSample_append_of_ne h fun raw hi => hT ⟨raw, hi⟩) r
  · exact absurd ⟨B, hi⟩ hL
  · exact absurd ⟨raw, hi⟩ hT

/-- Running over a list of events leaves what the operations since its last reset leave behind. -/
theorem run_remembers {es : List HostEvent} {h : List Instr} {s : State} (hs : Remembers h s) (hes : s.inputs = es) :
    ∃ t, Host.Core.run core es.length s = .next t ∧ Remembers (sinceReset h es) t := by
  induction es generalizing h s with
  | nil => exact ⟨s, rfl, hs⟩
  | cons e es ih =>
    cases e with
    | reset =>
      obtain ⟨t, ht, hrem⟩ := ih (s := applyReset { s with inputs := es }) (remembers_nil rfl rfl) rfl
      exact ⟨t, (run_succ_of_step (step_of_inputs_reset hes) _).trans ht, hrem⟩
    | request p =>
      obtain ⟨u, hu⟩ := exec_answers (decode p) { s with inputs := es }
      obtain ⟨t, ht, hrem⟩ := ih ((hs.withInputs es).append_of_exec hu) (exec_inputs hu)
      exact ⟨t, (run_succ_of_step ((step_of_inputs_request hes).trans hu) _).trans ht, hrem⟩

/-! ### The obligations -/

/-- Settles O41: waiting changes nothing, reset clears `tf_valid`, and a request is an operation. -/
theorem stepKeepsInvariant : Obligations.StepKeepsInvariant := by
  intro s t hs h
  obtain ⟨-, rfl⟩ | ⟨es, -, rfl⟩ | ⟨p, es, -, hexec⟩ := step_cases h
  · exact hs
  · exact nofun
  · exact exec_keeps_inv (s := { s with inputs := es }) hs hexec

/-- Settles O53: an operation has the same effect on both states, and no effect tells them apart. -/
theorem stepKeepsIndistinguishability : Obligations.StepKeepsIndistinguishability :=
  fun _ _ hin h => step_keeps_sameVisible hin h

/-- Settles O38: the frame of each of the three effects. -/
theorem operationsWriteOnlyTheirItems : Obligations.OperationsWriteOnlyTheirItems := by
  intro i s t h
  refine ⟨exec_inputs h, exec_session h, ?_, fun hi => exec_sameBlock_of_writesNothing hi h, fun B hi => ?_,
    fun raw hi => ?_⟩
  · obtain ⟨t', r, ht', hr⟩ := exec_answers_once i s
    cases h.symm.trans ht'
    exact ⟨r, hr⟩
  · subst hi
    exact ldcal_keeps_tf h
  · subst hi
    exact compt_keeps_cal h

/-- Settles O45: the events of the list are remembered one by one, and a reset begins anew. -/
theorem sessionHistoryFixesTheState : Obligations.SessionHistoryFixesTheState := by
  intro s es hcv htv
  obtain ⟨t, ht, hcv', htv', hcal, htf⟩ := run_remembers (remembers_nil (s := { s with inputs := es }) hcv htv) rfl
  exact ⟨t, ht, by rw [hcv'], by rw [htv'], hcal, htf⟩

/-- Settles O48: every step takes one event, and answers it once if it is a request. -/
theorem oneResponsePerRequest : Obligations.OneResponsePerRequest :=
  fun _ => run_takes_events rfl

/-- Settles O42: `tf_valid` is 0 after reset. -/
theorem resetHasInvariant : Obligations.ResetHasInvariant :=
  nofun

/-- Settles O43: reset clears the flags, and the guards of LDCAL, COMPT and COMPP test `cal_valid` first. -/
theorem resetBeginsASession : Obligations.ResetBeginsASession := by
  refine ⟨⟨rfl, rfl⟩, fun s es h => ⟨_, step_of_inputs_reset h, rfl, rfl, rfl, rfl⟩,
    fun B => ⟨_, exec_ldcal_unloaded B rfl, rfl, rfl⟩, fun raw => ⟨exec_compt_unloaded raw rfl, ?_⟩⟩
  rw [exec_compp, comppResponse_of_unloaded raw rfl]
  rfl

/-- Settles O46: the first event is fetched, and a request is decoded and executed. -/
theorem stepRunsTheDecodedRequest : Obligations.StepRunsTheDecodedRequest :=
  fun _ _ _ h => step_of_inputs_request h

/-- Settles O47: nothing is fetched from an empty list. -/
theorem blockWaitsWithoutRequest : Obligations.BlockWaitsWithoutRequest :=
  fun _ h => step_of_inputs_nil h

end Sys2Proof.Machine
end

section
/-! PROOFS. The decoder both ways, and the operations that look at no state: the codec and the reserved selects. -/

namespace Sys2Proof.Machine

/-! ### Decoding and encoding (30_encoding R66, R67) -/

/-- A direction classified by CMD is one of the three rows, so the instruction is well formed. -/
theorem wf_decodeCmd (dir cw : Word) : (decodeCmd dir cw).wf = true := by
  unfold decodeCmd
  split
  · rfl
  · split
    · rfl
    · exact decide_eq_true (by omega)

/-- The request of a CMD row has the direction and the word it was decoded from. -/
theorem encode_decodeCmd (dir cw : Word) :
    encode (decodeCmd dir cw) = { Request.zeros 0x2 with dir := dir, cw := cw } := by
  unfold decodeCmd
  split
  next h0 => rw [BitVec.eq_of_toNat_eq (x := dir) (y := 0) h0]; rfl
  next =>
    split
    next h1 => rw [BitVec.eq_of_toNat_eq (x := dir) (y := 1) h1]; rfl
    next => rfl

/-- Decoding gives a well-formed instruction. -/
theorem wf_decode (p : Request) : (decode p).wf = true := by
  unfold decode
  split
  case h_3 => exact wf_decodeCmd p.dir p.cw
  all_goals rfl

/-- A reserved request is decoded by its select alone (30_encoding R70). -/
theorem decode_of_reserved {p : Request} (h : 9 ≤ p.op.toNat) : decode p = decode (Request.zeros p.op) := by
  obtain hop | hop | hop | hop | hop | hop | hop := reserved_selects p.op h <;>
    simp only [decode, hop, Request.zeros] <;> rfl

/-- A reserved request uses no operand port. -/
theorem onlyUsed_of_reserved {p : Request} (h : 9 ≤ p.op.toNat) : p.onlyUsed = Request.zeros p.op := by
  obtain hop | hop | hop | hop | hop | hop | hop := reserved_selects p.op h <;>
    simp only [Request.onlyUsed, hop] <;> rfl

/-- A reserved operation is presented by its select alone. -/
theorem encode_of_reserved {i : Instr} (h : 9 ≤ i.select.toNat) : encode i = Request.zeros i.select := by
  cases i
  case reserved9 | reservedA | reservedB | reservedC | reservedD | reservedE | reservedF => rfl
  all_goals simp [Instr.select] at h

/-- The selects below 9 are the nine operations. -/
theorem unreserved_selects : ∀ op : BitVec 4, ¬9 ≤ op.toNat →
    op = 0x2 ∨ op = 0x0 ∨ op = 0x1 ∨ op = 0x3 ∨ op = 0x4 ∨ op = 0x5 ∨ op = 0x6 ∨ op = 0x7 ∨ op = 0x8 := by
  decide

/-- Presenting a decoded request again loses the ports its operation does not list, and nothing else. -/
theorem encode_decode (p : Request) : encode (decode p) = p.onlyUsed := by
  by_cases hres : 9 ≤ p.op.toNat
  · rw [encode_of_reserved (select_decode p ▸ hres), select_decode, onlyUsed_of_reserved hres]
  · obtain ⟨op, l, r, v, dir, cw, b0, b1, calblk, meas, raw⟩ := p
    obtain rfl | hop := unreserved_selects op hres
    · exact encode_decodeCmd dir cw
    · obtain rfl | rfl | rfl | rfl | rfl | rfl | rfl | rfl := hop <;> rfl

/-- Presenting a well-formed instruction and decoding the request gives the instruction back. -/
theorem decode_encode {i : Instr} (hi : i.wf = true) : decode (encode i) = i := by
  cases i
  case cmdUnsup dir cw => exact decodeCmd_badDirection (of_decide_eq_true hi) cw
  all_goals rfl

/-! ### Command words (40_codec section 2) -/

/-- The length of a packed word. -/
theorem cwLength_packCommand (l r v : Byte) : cwLength (packCommand l r v) = l := by
  have hl := l.isLt
  apply BitVec.eq_of_toNat_eq
  rw [cwLength_toNat, packCommand_toNat]
  omega

/-- The register of a packed word. -/
theorem cwRegister_packCommand (l r v : Byte) : cwRegister (packCommand l r v) = r := by
  have hl := l.isLt
  have hr := r.isLt
  apply BitVec.eq_of_toNat_eq
  rw [cwRegister_toNat, packCommand_toNat]
  omega

/-- The value of a packed word. -/
theorem cwValue_packCommand (l r v : Byte) : cwValue (packCommand l r v) = v := by
  have hl := l.isLt
  have hr := r.isLt
  have hv := v.isLt
  apply BitVec.eq_of_toNat_eq
  rw [cwValue_toNat, packCommand_toNat]
  omega

/-- Packing the three fields of a word keeps bits 23:0. -/
theorem packCommand_fields_toNat (cw : Word) :
    (packCommand (cwLength cw) (cwRegister cw) (cwValue cw)).toNat = cw.toNat % 2 ^ 24 := by
  rw [packCommand_toNat, cwLength_toNat, cwRegister_toNat, cwValue_toNat]
  omega

/-- Packing the three fields of a word gives the word back exactly when bits 31:24 are zero. -/
theorem packCommand_fields_eq_iff (cw : Word) :
    packCommand (cwLength cw) (cwRegister cw) (cwValue cw) = cw ↔ cw.toNat / 2 ^ 24 = 0 := by
  rw [← BitVec.toNat_inj, packCommand_fields_toNat]
  omega

/-! ### The operations that look at no state (40_codec section 5) -/

/-- An operation that writes on no path, COMPP, the unsupported direction and the reserved selects apart, answers one
and the same `Ok` in every state. -/
theorem exec_ok_uniform {i : Instr} (hw : writesNothing i = true) (hP : ∀ raw, i ≠ .compp raw)
    (hU : ∀ dir cw, i ≠ .cmdUnsup dir cw) (hsel : i.select < 0x9#4) :
    ∃ v : Result, ∀ s, exec i s = .next (s.answer (.ok v)) := by
  cases i
  case ldcal | compt => cases hw
  case compp raw => exact absurd rfl (hP raw)
  case cmdUnsup dir cw => exact absurd rfl (hU dir cw)
  case reserved9 | reservedA | reservedB | reservedC | reservedD | reservedE | reservedF =>
    exact absurd hsel (by decide)
  case enc | dec | cmdRd | cmdWr | bsrd | bswr | mkraw => exact ⟨_, fun _ => rfl⟩

/-! ### The obligations -/

/-- Settles O49: the operand ports and the select of an instruction are those `decode` reads; an unsupported direction
is at least 2. -/
theorem decodeOfEncodeIsIdentity : Obligations.DecodeOfEncodeIsIdentity :=
  fun _ hi => decode_encode hi

/-- Settles O50: three facts about `decode`, the rows of CMD and the reserved selects apart. -/
theorem encodeOfDecodeKeepsUsedPorts : Obligations.EncodeOfDecodeKeepsUsedPorts :=
  fun p => ⟨wf_decode p, select_decode p, encode_decode p⟩

/-- Settles O51: the ten requests, decoded. -/
theorem writtenRequestsDecode : Obligations.WrittenRequestsDecode := by
  unfold Obligations.WrittenRequestsDecode
  decide

/-- Settles O36: the answer of a reserved select, and decoding one. -/
theorem reservedSelectsAnswerReservedOp : Obligations.ReservedSelectsAnswerReservedOp := by
  refine ⟨fun i hi s => exec_of_select_reserved ?_ s, fun p hop => ⟨decode_of_reserved hop, select_decode p⟩⟩
  obtain rfl | rfl | rfl | rfl | rfl | rfl | rfl := hi <;> decide

/-- Settles O3: the fields of a packed word, and packing the fields of a word. -/
theorem codecRoundTrip : Obligations.CodecRoundTrip := by
  refine ⟨fun l r v s t => ⟨_, exec_enc l r v s, ?_⟩, fun cw s t => ⟨_, _, _, _, exec_dec cw s, exec_enc _ _ _ t,
    packCommand_fields_toNat cw, packCommand_fields_eq_iff cw⟩⟩
  rw [exec_dec, cwLength_packCommand, cwRegister_packCommand, cwValue_packCommand, State.answer]

/-- Settles O10: CMD of a packed word answers with its fields. -/
theorem byteStreamAgreesWithCommand : Obligations.ByteStreamAgreesWithCommand := by
  refine fun l r v s => ⟨_, _, exec_enc l r v s, exec_enc 1 r v s, fun t => ⟨?_, ?_⟩⟩
  · rw [exec, execCmdWr, classify_write, cwRegister_packCommand, cwValue_packCommand, exec_bswr]
  · rw [exec, execCmdRd, classify_read, cwRegister_packCommand, cwLength_packCommand, exec_bsrd]

/-- Settles O11: a direction of at least 2, a reserved select, or an operation that answers `Ok`. -/
theorem statelessOperationsIgnoreState : Obligations.StatelessOperationsIgnoreState := by
  intro i hwf hw hP
  by_cases hU : ∃ dir cw, i = .cmdUnsup dir cw
  · obtain ⟨dir, cw, rfl⟩ := hU
    exact ⟨_, classify_badDirection (of_decide_eq_true hwf) cw, fun _ _ _ => rfl,
      fun h => absurd h (show ¬0x9#4 ≤ 0x2#4 by decide),
      fun h => absurd rfl (h dir cw)⟩
  have hU' : ∀ dir cw, i ≠ .cmdUnsup dir cw := fun dir cw hi => hU ⟨dir, cw, hi⟩
  by_cases hsel : 0x9#4 ≤ i.select
  · exact ⟨_, exec_of_select_reserved (BitVec.le_def.mp hsel), fun dir cw hi => absurd hi (hU' dir cw), fun _ => rfl,
      fun _ hlt => absurd hsel (BitVec.not_le.mpr hlt)⟩
  · obtain ⟨v, hv⟩ := exec_ok_uniform hw hP hU' (BitVec.not_le.mp hsel)
    exact ⟨_, hv, fun dir cw hi => absurd hi (hU' dir cw), fun h => absurd h hsel, fun _ _ => ⟨v, rfl⟩⟩

end Sys2Proof.Machine
end

section
/-! PROOFS. The pressure computation: the steps of 42_compensation R118 that never wrap, the zero divisor of R119, and
exactness (R121). -/

namespace Sys2Proof.Machine

/-! ### The steps that never wrap (42_compensation section 3) -/

/-- A value of type s64 is not changed by the wrap. -/
theorem wP_of_fitsS {z : Int} (h : fitsS 64 z) : wP z = z :=
  wP_of_fits h.1 h.2

/-- The range of the register `TF` (10_state R24). -/
theorem State.tfValue_range (s : State) : -2 ^ 31 ≤ s.tfValue ∧ s.tfValue ≤ 2 ^ 31 - 1 := by
  have hlo := s.tf.le_toInt
  have hhi := s.tf.toInt_lt
  rw [State.tfValue]
  omega

section
variable {tf p : Int} (htf : -2 ^ 31 ≤ tf ∧ tf ≤ 2 ^ 31 - 1) (hp : -32768 ≤ p ∧ p ≤ 32767)

include htf in
/-- `a` never wraps. -/
theorem presA_of_range : presA tf = tf - 128000 := by
  rw [presA, subP]
  exact wP_of_fits (by omega) (by omega)

include htf in
/-- The absolute value of `a`. -/
theorem abs_presA_le : |tf - 128000| ≤ 2147611648 := by
  rw [abs_le]
  omega

include htf in
/-- `sq` never wraps: it is at most 2147611648 squared. -/
theorem presSq_of_range : presSq tf = (tf - 128000) * (tf - 128000) := by
  have hle : (tf - 128000) * (tf - 128000) ≤ 2147611648 * 2147611648 := by
    rw [← abs_mul_abs_self]
    exact mul_le_mul (abs_presA_le htf) (abs_presA_le htf) (abs_nonneg _) (by norm_num)
  have hge : 0 ≤ (tf - 128000) * (tf - 128000) := mul_self_nonneg _
  rw [presSq, presA_of_range htf, mulP]
  exact wP_of_fits (by omega) (by omega)

include htf hp

/-- The product of `a` and a signed coefficient has 47 bits. -/
theorem presA_mul_range : -(2147611648 * 32768) ≤ (tf - 128000) * p ∧ (tf - 128000) * p ≤ 2147611648 * 32768 := by
  rw [← abs_le, abs_mul]
  exact mul_le_mul (abs_presA_le htf) (abs_le.mpr (by omega)) (abs_nonneg _) (by norm_num)

/-- The product of `a` and a signed coefficient never wraps. -/
theorem mulP_presA_of_range : mulP (presA tf) p = (tf - 128000) * p := by
  have := presA_mul_range htf hp
  rw [presA_of_range htf, mulP]
  exact wP_of_fits (by omega) (by omega)

/-- `(a*P2) << 12` never wraps. -/
theorem shlP_mulP_presA_of_range : shlP (mulP (presA tf) p) 12 = (tf - 128000) * p * 2 ^ 12 := by
  have := presA_mul_range htf hp
  rw [mulP_presA_of_range htf hp, shlP]
  exact wP_of_fits (by omega) (by omega)

end

/-- `P4 << 35` never wraps. -/
theorem shlP_coef_of_range {p : Int} (hp : -32768 ≤ p ∧ p ≤ 32767) : shlP p 35 = p * 2 ^ 35 := by
  rw [shlP]
  exact wP_of_fits (by omega) (by omega)

/-- The range of `p0`. -/
theorem presP0_range (raw : Raw) : 1 ≤ presP0 (rawValue raw) ∧ presP0 (rawValue raw) ≤ 1048576 := by
  have := rawValue_range raw
  rw [presP0]
  omega

/-- `p0 << 31` never wraps. -/
theorem shlP_presP0 (raw : Raw) : shlP (presP0 (rawValue raw)) 31 = presP0 (rawValue raw) * 2 ^ 31 := by
  have := presP0_range raw
  rw [shlP]
  exact wP_of_fits (by omega) (by omega)

/-! ### The divisor (42_compensation R119) -/

/-- The divisor is `e` shifted right by 33. -/
theorem State.divisor_eq (s : State) : s.divisor = presE s.tfValue (s.coef 3) (s.coef 4) (s.coef 5) / 2 ^ 33 := rfl

/-- The divisor is of type s31: it is a wrapped product, shifted by 33. -/
theorem State.divisor_range (s : State) : -2 ^ 30 ≤ s.divisor ∧ s.divisor ≤ 2 ^ 30 - 1 := by
  have := wP_range (addP (2 ^ 47) (presC s.tfValue (s.coef 4) (s.coef 5)) * s.coef 3)
  rw [State.divisor_eq, presE, mulP]
  omega

/-- The divisor is 0 when P1 is. -/
theorem State.divisor_of_p1_zero {s : State} (h : s.coef 3 = 0) : s.divisor = 0 := by
  rw [State.divisor_eq, presE, h, mulP, mul_zero]
  rfl

/-- The divisor is 0 when the factor of P1 is. -/
theorem State.divisor_of_factor_zero {s : State} (h : 2 ^ 47 + presC s.tfValue (s.coef 4) (s.coef 5) = 0) :
    s.divisor = 0 := by
  rw [State.divisor_eq, presE, addP, h, show wP 0 = 0 from rfl, mulP, zero_mul]
  rfl

/-- The divisor depends on `TF`, P1, P2 and P3 alone. -/
theorem State.divisor_congr_of_registers {s t : State} (ht : s.tf = t.tf) (h3 : s.cal[3] = t.cal[3])
    (h4 : s.cal[4] = t.cal[4]) (h5 : s.cal[5] = t.cal[5]) : s.divisor = t.divisor := by
  rw [State.divisor, State.divisor, State.tfValue, State.tfValue, ht, State.coef_congr_of_register (i := 3) h3,
    State.coef_congr_of_register (i := 4) h4, State.coef_congr_of_register (i := 5) h5]

/-- COMPP behind its guards answers ZeroDivisor exactly when the divisor is 0. -/
theorem exec_compp_zeroDivisor_iff (raw : Raw) {s : State} (hcv : s.calValid = true) (htv : s.tfValid = true) :
    exec (.compp raw) s = .next (s.answer (.error (.domainError .zeroDivisor))) ↔ s.divisor = 0 := by
  constructor
  · intro h
    obtain ⟨-, -, hd, -⟩ := raises_zeroDivisor_iff.mp (raises_of_exec h)
    exact hd
  · intro hd
    exact exec_of_raises (.comppDivisorZero hcv htv hd)

/-! ### Exactness (42_compensation R121) -/

/-- The quotient of a multiple of 3125 of type s64 by a divisor that is not 0 is of type s64: the one quotient that
could leave the range is that of -2^63, no multiple of 3125, by -1. -/
theorem sdivP_of_fits {k n d : Int} (hn : n = k * 3125) (h : fitsS 64 n) : sdivP n d = Int.tdiv n d := by
  have habs : (Int.tdiv n d).natAbs ≤ n.natAbs := Int.natAbs_tdiv n d ▸ Nat.div_le_self _ _
  rw [sdivP]
  exact wP_of_fits (by omega) (by omega)

/-- Where no step before the division wraps, the divisor is the document's. -/
theorem presD_of_exact {raw tf p1 p2 p3 p4 p5 p6 : Int} (htf : -2 ^ 31 ≤ tf ∧ tf ≤ 2 ^ 31 - 1)
    (hp2 : -32768 ≤ p2 ∧ p2 ≤ 32767) (h : PresExactBefore raw tf p1 p2 p3 p4 p5 p6) :
    presD tf p1 p2 p3 = docD tf p1 p2 p3 := by
  obtain ⟨-, -, -, -, hc1, hc, hf, he, -, -⟩ := h
  have hsq : presSq tf = docA tf * docA tf := presSq_of_range htf
  have hap2 : shlP (mulP (presA tf) p2) 12 = docA tf * p2 * 2 ^ 12 := shlP_mulP_presA_of_range htf hp2
  have hC : presC tf p2 p3 = docC tf p2 p3 := by
    rw [presC, hsq, mulP, wP_of_fitsS hc1, hap2, asr, addP, ← docC, wP_of_fitsS hc]
  have hE : presE tf p1 p2 p3 = docE tf p1 p2 p3 := by
    rw [presE, hC, addP, wP_of_fitsS hf, mulP, ← docE, wP_of_fitsS he]
  rw [presD, hE, asr, docD]

/-- Where no step before the division wraps, the numerator is the document's. -/
theorem presN_of_exact {raw : Raw} {tf p1 p2 p3 p4 p5 p6 : Int} (htf : -2 ^ 31 ≤ tf ∧ tf ≤ 2 ^ 31 - 1)
    (hp4 : -32768 ≤ p4 ∧ p4 ≤ 32767) (hp5 : -32768 ≤ p5 ∧ p5 ≤ 32767)
    (h : PresExactBefore (rawValue raw) tf p1 p2 p3 p4 p5 p6) :
    presN (rawValue raw) tf p4 p5 p6 = docN (rawValue raw) tf p4 p5 p6 := by
  obtain ⟨hb1, hb2, hb12, hb, -, -, -, -, hn1, hn⟩ := h
  have hsq : presSq tf = docA tf * docA tf := presSq_of_range htf
  have hap5 : mulP (presA tf) p5 = docA tf * p5 := mulP_presA_of_range htf hp5
  have hB : presB tf p4 p5 p6 = docB tf p4 p5 p6 := by
    rw [presB, hsq, mulP, wP_of_fitsS hb1, hap5, shlP, wP_of_fitsS hb2, addP, addP, wP_of_fitsS hb12,
      shlP_coef_of_range hp4, ← docB, wP_of_fitsS hb]
  rw [presN, shlP_presP0, hB, subP, presP0, wP_of_fitsS hn1, mulP, ← docN, wP_of_fitsS hn]

/-- Where no step after the division wraps, `p` is the document's. -/
theorem presResult_of_exact {q p7 p8 p9 : Int} (hp7 : -32768 ≤ p7 ∧ p7 ≤ 32767) (h : PresExactAfter q p7 p8 p9) :
    presResult q p7 p8 p9 = docPressure q p7 p8 p9 := by
  obtain ⟨h9, h99, h8, h1, h2, hp⟩ := h
  have hshl : shlP p7 4 = p7 * 2 ^ 4 := wP_of_fits (by omega) (by omega)
  have hE1 : presE1 q p9 = p9 * (q / 2 ^ 13) * (q / 2 ^ 13) / 2 ^ 25 := by
    rw [presE1, asr, asr, mulP, mulP, wP_of_fitsS h9, wP_of_fitsS h99]
  have hE2 : presE2 q p8 = p8 * q / 2 ^ 19 := by
    rw [presE2, asr, mulP, wP_of_fitsS h8]
  rw [presResult, hE1, hE2, hshl, addP, addP, addP, asr, wP_of_fitsS h1, wP_of_fitsS h2, ← docPressure, wP_of_fitsS hp]

/-- Where every step is exact, COMPP computes with the document's divisor and answers the document's `p`. -/
theorem State.divisor_pressureOf_of_presExact {s : State} {raw : Raw} (h : s.PresExact raw) :
    s.divisor = s.docDivisor ∧
      s.pressureOf raw = docPressure (s.docQuotient raw) (s.coef 9) (s.coef 10) (s.coef 11) := by
  obtain ⟨hbefore, hafter⟩ := h
  have hp (i : Fin 12) (h0 : i ≠ 0) (h3 : i ≠ 3) := s.coef_range_of_signed h0 h3
  have hd : s.divisor = s.docDivisor := presD_of_exact s.tfValue_range (hp 4 (by decide) (by decide)) hbefore
  have hn := presN_of_exact s.tfValue_range (hp 6 (by decide) (by decide)) (hp 7 (by decide) (by decide)) hbefore
  obtain ⟨-, -, -, -, -, -, -, -, -, hfits⟩ := hbefore
  have hq : s.quotient raw = s.docQuotient raw := by
    rw [State.quotient, hn, hd, State.docQuotient]
    exact sdivP_of_fits rfl hfits
  exact ⟨hd, by rw [State.pressureOf, hq, presResult_of_exact (hp 9 (by decide) (by decide)) hafter]⟩

/-! ### The obligations -/

/-- Settles O23: the divisor is `e` shifted right by 33, and COMPP raises for it last of its causes. -/
theorem comppRaisesOnZeroDivisor : Obligations.ComppRaisesOnZeroDivisor := by
  refine ⟨fun raw s hcv htv => exec_compp_zeroDivisor_iff raw hcv htv, fun s => ?_, fun s => State.divisor_of_p1_zero,
    fun s => State.divisor_of_factor_zero, fun s hlo hhi => ?_, fun s t => State.divisor_congr_of_registers⟩
  · rw [State.divisor_eq]
    omega
  · rw [State.divisor_eq]
    omega

/-- Settles O25: the operands of these steps are narrow enough for 64 bits. -/
theorem pressureStepsThatNeverWrap : Obligations.PressureStepsThatNeverWrap := by
  intro raw s
  have htf := s.tfValue_range
  have hp2 := s.coef_range_of_signed (i := 4) (by decide) (by decide)
  have hp4 := s.coef_range_of_signed (i := 6) (by decide) (by decide)
  exact ⟨presA_of_range htf, presSq_of_range htf, shlP_mulP_presA_of_range htf hp2, shlP_coef_of_range hp4,
    presP0_range raw, shlP_presP0 raw, s.divisor_range⟩

/-- Settles O24: with every value in range no wrap acts, before the division or after it. -/
theorem pressureIsExactWithoutOverflow : Obligations.PressureIsExactWithoutOverflow := by
  intro raw s hcv htv h hd
  obtain ⟨hdiv, hp⟩ := State.divisor_pressureOf_of_presExact h
  refine ⟨patternP (s.pressureOf raw), ?_, ?_⟩
  · rw [patternP_toInt, s.wP_pressureOf, hp]
  · rw [exec_compp, comppResponse_of_divisor_ne_zero raw hcv htv (hdiv ▸ hd), State.answer]

end Sys2Proof.Machine
end

section
/-! PROOFS. Statuses and errors across all operations: the table of 60_exceptions R135, and that no error is sticky. -/

namespace Sys2Proof.Machine

/-- With `tf_valid` set, COMPP does not raise TFineUnset. -/
theorem comppResponse_ne_tFineUnset {raw : Raw} {s : State} (htv : s.tfValid = true) :
    comppResponse raw s ≠ .error (.domainError .tFineUnset) := by
  intro h
  obtain ⟨-, hf, -⟩ := raises_tFineUnset_iff.mp (raises_of_comppResponse_error h)
  cases htv.symm.trans hf

/-- After an LDCAL in an unloaded state, COMPT succeeds. -/
theorem compt_after_ldcal (B : CalBlock) (raw : Raw) {s : State} (hcv : s.calValid = false) :
    ∃ s1 s2 : State, ∃ t : Word, exec (.ldcal B) s = .next s1 ∧ exec (.compt raw) s1 = .next s2 ∧
      s2.responses = s.responses ++ [.ok .loaded, .ok (.temperature t)] :=
  ⟨_, _, _, exec_ldcal_unloaded B hcv, exec_compt_loaded raw rfl, List.append_assoc _ _ _⟩

/-- The status and detail of COMPP: the first of its causes that holds (60_exceptions R137). -/
theorem comppResponse_status (raw : Raw) (s : State) :
    ((comppResponse raw s).status, (comppResponse raw s).detail) = statusTable (.compp raw) s := by
  rw [comppResponse, statusTable]
  split_ifs <;> rfl

/-! ### The obligations -/

/-- Settles O32: LDCAL and COMPT by their guard, COMPP by its causes, an unsupported direction by its range; every
other operation answers the same in all states. -/
theorem statusFollowsTheTable : Obligations.StatusFollowsTheTable := by
  intro i s hwf
  cases i
  case cmdUnsup dir cw => exact ⟨_, _, classify_badDirection (of_decide_eq_true hwf) cw s, rfl, rfl⟩
  case ldcal B =>
    cases hc : s.calValid with
    | false => exact ⟨_, _, exec_ldcal_unloaded B hc, rfl, by rw [statusTable, hc]; rfl⟩
    | true => exact ⟨_, _, exec_ldcal_loaded B hc, rfl, by rw [statusTable, hc]; rfl⟩
  case compt raw =>
    cases hc : s.calValid with
    | false => exact ⟨_, _, exec_compt_unloaded raw hc, rfl, by rw [statusTable, hc]; rfl⟩
    | true => exact ⟨_, _, exec_compt_loaded raw hc, rfl, by rw [statusTable, hc]; rfl⟩
  case compp raw => exact ⟨_, _, exec_compp raw s, rfl, comppResponse_status raw s⟩
  all_goals exact ⟨_, _, rfl, rfl, rfl⟩

/-- Settles O31: an error leaves the four items, on which every response depends; the cures are LDCAL and COMPT, and
COMPT does not write P1. -/
theorem errorsAreNotSticky : Obligations.ErrorsAreNotSticky := by
  refine ⟨fun i j s t e h hr => ?_, fun B raw s hcv => compt_after_ldcal B raw hcv, fun raw q s hcv =>
    ⟨_, _, _, exec_compt_loaded raw hcv, exec_compp q _, rfl, comppResponse_ne_tFineUnset rfl, fun hp1 => ?_⟩⟩
  · have ht := eq_answer_of_responses_error h hr
    obtain ⟨r, t', s', ht', hs', hrt, hrs, hb⟩ :=
      responseDependsOnlyOnTheFourItems j t s (ht ▸ s.answer_sameBlock (.error e))
    refine ⟨r, t', s', ht', hs', hb, hrt, hrs, fun hji => ?_⟩
    subst hji
    cases h.symm.trans hs'
    simpa using hrs.symm.trans hr
  · exact comppResponse_of_divisor_zero q hcv rfl (State.divisor_of_p1_zero hp1)

end Sys2Proof.Machine
end

section
/-! PROOFS. The two datapaths as circuits. Taking the bit pattern of an integer is a ring homomorphism that does not see
wraps, and an arithmetic shift of a wrapped value is the arithmetic shift of its pattern; so the pattern of each step of
42_compensation R112 and R118 is the gate of the circuit on the patterns of its operands. -/

namespace Sys2Proof.Machine

/-! ### Bit patterns at any width -/

section
variable {N : Nat}

/-- A wrap does not change the bit pattern. -/
theorem ofInt_wrapS (z : Int) : BitVec.ofInt N (wrapS N z) = BitVec.ofInt N z :=
  BitVec.ofInt_toInt

/-- The pattern of a difference. -/
theorem ofInt_sub (a b : Int) : BitVec.ofInt N (a - b) = BitVec.ofInt N a - BitVec.ofInt N b := by
  rw [sub_eq_add_neg, BitVec.ofInt_add, BitVec.ofInt_neg, ← BitVec.sub_eq_add_neg]

/-- The pattern of a left shift (00_scope R8, decision D11). -/
theorem ofInt_mul_two_pow (a : Int) (n : Nat) : BitVec.ofInt N (a * 2 ^ n) = BitVec.ofInt N a <<< n := by
  have hpow : BitVec.ofInt N (2 ^ n) = BitVec.twoPow N n := by
    rw [← Nat.cast_ofNat, ← Nat.cast_pow, BitVec.ofInt_natCast]
    exact BitVec.eq_of_toNat_eq (by rw [BitVec.toNat_ofNat, BitVec.toNat_twoPow])
  rw [BitVec.ofInt_mul, hpow, BitVec.shiftLeft_eq_mul_twoPow]

/-- The pattern of an arithmetic right shift of a value in range (00_scope R8). -/
theorem ofInt_asr_of_fits {z : Int} (h : wrapS N z = z) (n : Nat) :
    BitVec.ofInt N (asr z n) = (BitVec.ofInt N z).sshiftRight n := by
  have hz : (BitVec.ofInt N z).toInt = z := h
  rw [asr, BitVec.sshiftRight, hz, Int.shiftRight_eq_div_pow, Nat.cast_pow, Nat.cast_ofNat]

/-- The pattern of an arithmetic right shift of a wrapped value. -/
theorem ofInt_asr_wrapS (z : Int) (n : Nat) :
    BitVec.ofInt N (asr (wrapS N z) n) = (BitVec.ofInt N z).sshiftRight n := by
  have hfits : wrapS N (wrapS N z) = wrapS N z := congrArg BitVec.toInt (ofInt_wrapS z)
  rw [ofInt_asr_of_fits hfits, ofInt_wrapS]

/-- The pattern of an unsigned port is its zero extension (30_encoding R69). -/
theorem ofInt_toNat {w : Nat} (u : BitVec w) : BitVec.ofInt N u.toNat = u.setWidth N :=
  (BitVec.ofInt_natCast N u.toNat).trans (BitVec.ofNat_toNat N u)

end

/-- The pattern of T1 or P1 in a datapath is zero-extended (00_scope R10). -/
theorem State.ofInt_coef_of_unsigned {i : Fin 12} (hi : i = 0 ∨ i = 3) (s : State) (N : Nat) :
    BitVec.ofInt N (s.coef i) = (s.cal[i]).setWidth N := by
  rw [s.coef_of_unsigned hi, ofInt_toNat]

/-- The pattern of any other coefficient in a datapath is sign-extended (00_scope R10). -/
theorem State.ofInt_coef_of_signed {i : Fin 12} (h0 : i ≠ 0) (h3 : i ≠ 3) (s : State) (N : Nat) :
    BitVec.ofInt N (s.coef i) = (s.cal[i]).signExtend N := by
  rw [s.coef_of_signed h0 h3, BitVec.signExtend]

/-- The left shift of the temperature datapath (00_scope R8). -/
theorem ofInt_shlT (a : Int) (n : Nat) : BitVec.ofInt 32 (shlT a n) = BitVec.ofInt 32 a <<< n :=
  (ofInt_wrapS _).trans (ofInt_mul_two_pow a n)

/-- The left shift of the pressure datapath (00_scope R8). -/
theorem ofInt_shlP (a : Int) (n : Nat) : BitVec.ofInt 64 (shlP a n) = BitVec.ofInt 64 a <<< n :=
  (ofInt_wrapS _).trans (ofInt_mul_two_pow a n)

/-! ### The temperature circuit -/

/-- The pattern of the shifted raw sample, which is not negative. -/
theorem ofInt_asr_rawValue (raw : Raw) (n : Nat) : BitVec.ofInt 32 (asr (rawValue raw) n) = raw.setWidth 32 >>> n := by
  have hraw := raw.isLt
  have hdiv := Nat.div_le_self raw.toNat (2 ^ n)
  have hcast : asr (rawValue raw) n = ((raw.toNat / 2 ^ n : Nat) : Int) := by
    rw [asr, rawValue, Int.natCast_ediv, Nat.cast_pow, Nat.cast_ofNat]
  rw [hcast, BitVec.ofInt_natCast]
  apply BitVec.eq_of_toNat_eq
  rw [BitVec.toNat_ofNat, BitVec.toNat_ushiftRight, BitVec.toNat_setWidth, Nat.shiftRight_eq_div_pow,
    Nat.mod_eq_of_lt (by omega), Nat.mod_eq_of_lt (by omega)]

/-- The pattern of `tf` is what the circuit computes. -/
theorem patternT_fineOf (s : State) (raw : Raw) :
    patternT (s.fineOf raw) = tempFineCircuit raw s.cal[0] s.cal[1] s.cal[2] := by
  have ht1 := s.ofInt_coef_of_unsigned (i := 0) (.inl rfl) 32
  have ht2 := s.ofInt_coef_of_signed (i := 1) (by decide) (by decide) 32
  have ht3 := s.ofInt_coef_of_signed (i := 2) (by decide) (by decide) 32
  simp only [State.fineOf, tempFine, tempVar1, tempX3, tempVar2, tempY3, tempY1, addT, subT, mulT, wT, patternT,
    ofInt_wrapS, ofInt_asr_wrapS, ofInt_shlT, BitVec.ofInt_add, ofInt_sub, BitVec.ofInt_mul, ofInt_asr_rawValue,
    ht1, ht2, ht3, tempFineCircuit]
  rfl

/-- The pattern of `T` is what the circuit computes. -/
theorem patternT_tempResult (tf : Int) : patternT (tempResult tf) = tempResultCircuit (patternT tf) := by
  simp only [tempResult, addT, mulT, wT, patternT, ofInt_wrapS, ofInt_asr_wrapS, BitVec.ofInt_add, BitVec.ofInt_mul,
    BitVec.ofInt_ofNat, tempResultCircuit]
  rfl

/-! ### The pressure circuit -/

/-- The pattern of `a` is the sign-extended `TF` less 128000. -/
theorem ofInt_presA (s : State) : BitVec.ofInt 64 (presA s.tfValue) = s.tf.signExtend 64 - 128000 := by
  rw [presA, subP, wP, ofInt_wrapS, ofInt_sub]
  rfl

/-- The pattern of `sq` is the square of that of `a`. -/
theorem ofInt_presSq (tf : Int) :
    BitVec.ofInt 64 (presSq tf) = BitVec.ofInt 64 (presA tf) * BitVec.ofInt 64 (presA tf) := by
  rw [presSq, mulP, wP, ofInt_wrapS, BitVec.ofInt_mul]

/-- The pattern of the divisor is what the circuit computes. -/
theorem patternP_divisor (s : State) : patternP s.divisor = divisorCircuit s.tf s.cal[3] s.cal[4] s.cal[5] := by
  have hp1 := s.ofInt_coef_of_unsigned (i := 3) (.inr rfl) 64
  have hp2 := s.ofInt_coef_of_signed (i := 4) (by decide) (by decide) 64
  have hp3 := s.ofInt_coef_of_signed (i := 5) (by decide) (by decide) 64
  have h47 : BitVec.ofInt 64 (2 ^ 47) = 1 <<< 47 := by decide
  simp only [State.divisor, presD, presE, presC, addP, mulP, wP, patternP, add_comm (2 ^ 47 : Int),
    ofInt_wrapS, ofInt_asr_wrapS, ofInt_shlP, BitVec.ofInt_add, BitVec.ofInt_mul, ofInt_presSq, ofInt_presA,
    hp1, hp2, hp3, h47, divisorCircuit]
  rfl

/-- The pattern of the numerator is what the circuit computes. -/
theorem patternP_presN (s : State) (raw : Raw) :
    patternP (presN (rawValue raw) s.tfValue (s.coef 6) (s.coef 7) (s.coef 8)) =
      numeratorCircuit raw s.tf s.cal[6] s.cal[7] s.cal[8] := by
  have hp4 := s.ofInt_coef_of_signed (i := 6) (by decide) (by decide) 64
  have hp5 := s.ofInt_coef_of_signed (i := 7) (by decide) (by decide) 64
  have hp6 := s.ofInt_coef_of_signed (i := 8) (by decide) (by decide) 64
  have hraw : BitVec.ofInt 64 (rawValue raw) = raw.setWidth 64 := ofInt_toNat raw
  simp only [presN, presB, presP0, addP, subP, mulP, wP, patternP, ofInt_wrapS, ofInt_shlP, BitVec.ofInt_add, ofInt_sub,
    BitVec.ofInt_mul, BitVec.ofInt_ofNat, ofInt_presSq, ofInt_presA, hp4, hp5, hp6, hraw, numeratorCircuit]
  rfl

/-- The pattern of the quotient is that of the truncating divider: the operands are of type s64 (00_scope R8). -/
theorem patternP_sdivP {n d : Int} (hn : wP n = n) (hd : wP d = d) :
    patternP (sdivP n d) = (patternP n).sdiv (patternP d) := by
  apply BitVec.eq_of_toInt_eq
  rw [BitVec.toInt_sdiv, patternP_toInt, patternP_toInt, patternP_toInt, hn, hd, sdivP, wP_wP, wP_eq_bmod]

/-- The pattern of `p` is what the circuit computes from the quotient. -/
theorem patternP_presResult (s : State) {q : Int} (hq : wP q = q) :
    patternP (presResult q (s.coef 9) (s.coef 10) (s.coef 11)) =
      pressureCircuit (patternP q) s.cal[9] s.cal[10] s.cal[11] := by
  have hp7 := s.ofInt_coef_of_signed (i := 9) (by decide) (by decide) 64
  have hp8 := s.ofInt_coef_of_signed (i := 10) (by decide) (by decide) 64
  have hp9 := s.ofInt_coef_of_signed (i := 11) (by decide) (by decide) 64
  have hs : BitVec.ofInt 64 (asr q 13) = (BitVec.ofInt 64 q).sshiftRight 13 := ofInt_asr_of_fits hq 13
  simp only [presResult, presE1, presE2, addP, mulP, wP, patternP, ofInt_wrapS, ofInt_asr_wrapS, ofInt_shlP,
    BitVec.ofInt_add, BitVec.ofInt_mul, hp7, hp8, hp9, hs, pressureCircuit]
  rfl

/-- The divisor is read back from its pattern. -/
theorem State.wP_divisor (s : State) : wP s.divisor = s.divisor := by
  have := s.divisor_range
  exact wP_of_fits (by omega) (by omega)

/-- The circuit's divisor is 0 exactly when the divisor is. -/
theorem State.divisorCircuit_eq_zero_iff (s : State) :
    divisorCircuit s.tf s.cal[3] s.cal[4] s.cal[5] = 0 ↔ s.divisor = 0 := by
  rw [← patternP_divisor, ← BitVec.toInt_inj, patternP_toInt, s.wP_divisor]
  rfl

/-- The pattern of `p` is what the circuit computes with a truncating divider. -/
theorem patternP_pressureOf (s : State) (raw : Raw) :
    patternP (s.pressureOf raw) = pressureCircuit ((numeratorCircuit raw s.tf s.cal[6] s.cal[7] s.cal[8]).sdiv
      (divisorCircuit s.tf s.cal[3] s.cal[4] s.cal[5])) s.cal[9] s.cal[10] s.cal[11] := by
  have hq : wP (s.quotient raw) = s.quotient raw := wP_wP _
  have hn : wP (presN (rawValue raw) s.tfValue (s.coef 6) (s.coef 7) (s.coef 8)) =
    presN (rawValue raw) s.tfValue (s.coef 6) (s.coef 7) (s.coef 8) := wP_wP _
  rw [State.pressureOf, patternP_presResult s hq, State.quotient, patternP_sdivP hn s.wP_divisor, patternP_presN,
    patternP_divisor]

/-! ### The obligations -/

/-- Settles O28: each pattern COMPT leaves is what the circuit computes. -/
theorem temperatureCircuitAgrees : Obligations.TemperatureCircuitAgrees := by
  intro raw s hcv
  rw [exec_compt_loaded raw hcv, patternT_tempResult, patternT_fineOf, State.afterCompt]

/-- Settles O29: the circuit's divisor decides between the two responses of COMPP, and its result is the pattern of
the pressure. -/
theorem pressureCircuitAgrees : Obligations.PressureCircuitAgrees := by
  intro raw s hcv htv d n
  rw [exec_compp]
  by_cases hd : s.divisor = 0
  · rw [comppResponse_of_divisor_zero raw hcv htv hd, if_pos (s.divisorCircuit_eq_zero_iff.mpr hd), State.answer]
  · rw [comppResponse_of_divisor_ne_zero raw hcv htv hd, if_neg (hd ∘ s.divisorCircuit_eq_zero_iff.mp),
      patternP_pressureOf, State.answer]

end Sys2Proof.Machine
end
